-- ==== Sys2Proof/Word.lean ====
section
/-! DEFINITION. The word types of the CORE (00_scope.md section 7): bytes, 7-bit register
addresses, 16-bit wire frames and 17-bit command words. -/

namespace Sys2Proof

/-- A byte: bit 7 is the most significant (00_scope.md section 7). -/
abbrev Byte := BitVec 8

/-- RegisterAddress: a 7-bit value, 0x00 to 0x7F (20_memory.md R50). -/
abbrev Addr := BitVec 7

/-- A wire frame `F[15:0]`, the first transmitted byte in `F[15:8]` (30_encoding.md R80). -/
abbrev Frame := BitVec 16

/-- A command word `C[16:0]` (30_encoding.md R89). -/
abbrev CommandWord := BitVec 17

end Sys2Proof
end

