-- ==== Sys2Proof/Machine/Literals.lean ====
section
/-! DEFINITION. The source's numeric literals, each a named constant in one place, as
00_scope.md R12 asks (93_implementation_defined.md section 3 lists their uses). -/

namespace Sys2Proof.Literal

/-- The write flag, OR-ed into the first byte of a write (30_encoding.md R81, R83). -/
def writeFlag : Byte := 0x80

/-- The mask of the first byte of a read (30_encoding.md R81, R83). -/
def addressMask : Byte := 0x7F

/-- The second byte of every read frame (30_encoding.md R84). -/
def filler : Byte := 0x00

/-- Default of `T_HIGH` in time-units (00_scope.md R8). -/
def holdHigh : Nat := 1

/-- Default of `T_LOW` in time-units (00_scope.md R8). -/
def holdLow : Nat := 1

/-- Default of `T_SETTLE` in time-units (00_scope.md R8). -/
def holdSettle : Nat := 5

/-- Default of `TIME_UNIT`, 1 ms, in microseconds (00_scope.md R8). -/
def timeUnit : Nat := 1000

/-- Default of `ID_EXPECTED` (00_scope.md R8; 95_test_vectors.md SRC4). -/
def idExpected : Byte := 0x12

/-- The mismatching identity byte of the source's worked example (95_test_vectors.md SRC4). -/
def otherIdentity : Byte := 0x13

/-- The address of the source's round-trip example (95_test_vectors.md SRC5), also `MODE_ADDR` and
`POLL_ADDR` of the host's programs (95_test_vectors.md P1). -/
def exampleAddr : Addr := 0x01

/-- The value of the source's round-trip example (95_test_vectors.md SRC5), also `MODE_VALUE` of
the host's programs (95_test_vectors.md P1): another role of 0x80 than `writeFlag`. -/
def exampleValue : Byte := 0x80

/-- The source's advice on the bus clock, in its own words because it gives no number
(70_reset_and_hazards.md R205); nothing reads it. -/
def busClock : String := "a few hundred kHz"

end Sys2Proof.Literal
end

