-- ==== Sys2Proof/Machine/Operands.lean ====
section
/-! DEFINITION. The operand forms: how an address and an intent become the first transmitted
byte (30_encoding.md R81, R83), and how a received frame is taken apart (20_memory.md R62). -/

namespace Sys2Proof.Machine

/-- First byte of a write: `zext_8(a) | 0x80` (30_encoding.md R83; 40_register_access.md R112). -/
def writeFirstByte (a : Addr) : Byte := a.setWidth 8 ||| Literal.writeFlag

/-- First byte of a read: `zext_8(a) & 0x7F` (30_encoding.md R83; 40_register_access.md R112). -/
def readFirstByte (a : Addr) : Byte := a.setWidth 8 &&& Literal.addressMask

/-- The address field `t0[6:0]` of a first byte (30_encoding.md R80). -/
def addressOf (t0 : Byte) : Addr := t0.setWidth 7

/-- The read/write flag `t0[7]` of a first byte, true for a write (30_encoding.md R80). -/
def isWrite (t0 : Byte) : Bool := t0[7]

end Sys2Proof.Machine
end

