-- ==== Sys2Proof/Config.lean ====
section
/-! DEFINITION. What is fixed for one CORE (the parameters of 00_scope.md R8) and the free
values: the answers of the environment (20_memory.md R56, R57, R62) and the open parameter
`ID_ADDR` (92_eei_decisions.md D17). A free value has no body: no proof can see what it is. -/

namespace Sys2Proof

/-- A level of a line (20_memory.md R58). -/
inductive Level where
  | high
  | low
  deriving DecidableEq, Repr, Inhabited

/-- The other level. -/
def Level.other : Level → Level
  | .high => .low
  | .low => .high

/-- The outcome of one call of `Exchange` (20_memory.md R56): (a) two received bytes,
(b) `fail`, (c) it never returns. -/
inductive Answer where
  | ok (r0 r1 : Byte)
  | fail
  | never
  deriving DecidableEq, Repr, Inhabited

/-- Which of the three outcomes a call of `Exchange` has (20_memory.md R56). -/
inductive Reply where
  | ok
  | fail
  | never
  deriving DecidableEq, Repr, Inhabited

/-- The configuration parameters of 00_scope.md R8 and 10_state.md R37, fixed before the
first command. `timeUnit` is in microseconds (log 3). -/
structure Params where
  tHigh : Nat
  tLow : Nat
  tSettle : Nat
  timeUnit : Nat
  idAddr : Addr
  idExpected : Byte
  csActive : Level
  deriving DecidableEq, Repr

/-- `ID_ADDR`, which no source gives (92_eei_decisions.md D17). DESIGN CHOICE, log 4: a free
value. -/
opaque Config.idAddr : Addr

/-- Which outcome the exchange of number `n` of the frame `t0 t1` has, when nothing else in the
environment answers it (20_memory.md R56). DESIGN CHOICE, log 6: a free draw. -/
opaque Config.freeReply : Nat → Byte → Byte → Reply

/-- The first byte received in exchange `n` (20_memory.md R57, R62). It is captured while `t0` is
sent and cannot depend on it (20_memory.md R61), nor on `t1`, sent later (DEDUCED, log 6), so the
frame is no argument of it. DESIGN CHOICE, logs 6 and 7: a free draw. -/
opaque Config.freeFirst : Nat → Byte

/-- The second byte received in exchange `n` of the frame `t0 t1` (20_memory.md R57, R62).
DESIGN CHOICE, logs 6 and 7: a free draw. -/
opaque Config.freeSecond : Nat → Byte → Byte → Byte

/-- The values for this hardware (00_scope.md R8); `CS_ACTIVE` is low by 92_eei_decisions.md D8. -/
def Params.default : Params where
  tHigh := Literal.holdHigh
  tLow := Literal.holdLow
  tSettle := Literal.holdSettle
  timeUnit := Literal.timeUnit
  idAddr := Config.idAddr
  idExpected := Literal.idExpected
  csActive := .low

end Sys2Proof
end

