-- ==== Sys2Proof/Syntax.lean ====
section
/-! DEFINITION. The instructions: one constructor per row of spec/opcode_table.json. Four are
command words of the host (30_encoding.md R88, R92), two are the wire frames of a register
transaction (30_encoding.md R80). -/

namespace Sys2Proof

/-- One constructor per row of the opcode table. -/
inductive Instr where
  /-- `READ a` (40_register_access.md R104). -/
  | read (a : Addr)
  /-- `WRITE a, v` (40_register_access.md R108). -/
  | write (a : Addr) (v : Byte)
  /-- `BRINGUP` (41_sequencer.md R120). -/
  | bringup
  /-- The reserved command word `C[16:15] = 0b11` (30_encoding.md R92). -/
  | reserved
  /-- The write frame `1aaaaaaa vvvvvvvv` (30_encoding.md R80). -/
  | writeFrame (a : Addr) (v : Byte)
  /-- The read frame `0aaaaaaa 00000000` (30_encoding.md R80). -/
  | readFrame (a : Addr)
  deriving DecidableEq, Repr

/-- The three commands the CORE accepts (30_encoding.md R88), the values of `CUR`
(10_state.md R24). -/
inductive Command where
  | bringup
  | read (a : Addr)
  | write (a : Addr) (v : Byte)
  deriving DecidableEq, Repr

/-- The instruction a command is (30_encoding.md R88). -/
def Command.instr : Command → Instr
  | .bringup => .bringup
  | .read a => .read a
  | .write a v => .write a v

/-- A command whose operands are abstract numbers, as a host library holds them
(30_encoding.md R93; 70_reset_and_hazards.md R196). -/
inductive RawCommand where
  | bringup
  | read (a : Nat)
  | write (a v : Nat)
  deriving DecidableEq, Repr

end Sys2Proof
end

