-- ==== Sys2Proof/Machine/State.lean ====
section
/-! DEFINITION. The state of the CORE (10_state.md R20), the model's own fields beside it (the
host's actions, the environment, the event trace, the configuration), the reasons a step can
stop, and the state after reset (10_state.md R42). -/

namespace Sys2Proof.Machine

/-- `SEQ`, the CORE's program counter (10_state.md R21). -/
inductive Seq where
  | idle
  | heldHigh
  | asserted
  | settling
  | verify
  | ready
  | fatal
  deriving DecidableEq, Repr

/-- `TXN`, the position inside one register transaction (10_state.md R23). -/
inductive TxnPhase where
  | none
  | selected
  | exchanged
  deriving DecidableEq, Repr

/-- The two lines of the transport (20_memory.md R58). -/
inductive LineId where
  | cs
  | rst
  deriving DecidableEq, Repr

/-- The six status codes (60_exceptions.md R150). -/
inductive Status where
  | ok
  | identityMismatch
  | transportFailure
  | gateClosed
  | notIdle
  | illegalCommand
  deriving DecidableEq, Repr

/-- The events of the trace (00_scope.md R10). -/
inductive Event where
  | line (id : LineId) (level : Level)
  | xchg (t0 t1 r0 r1 : Byte)
  | xchgFail (t0 t1 : Byte)
  | wait (n : Nat)
  | resp (status : Status) (data : Option Byte)
  deriving DecidableEq, Repr

/-- What the host can do to the CORE: offer a command word, reset it (10_state.md R40). -/
inductive HostAction where
  | word (c : CommandWord)
  | coreReset
  deriving DecidableEq, Repr

/-- The registers of the reference peripheral, in the canonical form of `Memory.wf`. -/
abbrev Memory := List Host.Cell

/-- The reference environment (20_memory.md R62): the map `reg`, its initial map `reg0`, and
the read-only addresses; `RO` is `ro` together with `ID_ADDR`. -/
structure Stub where
  reg0 : Memory
  reg : Memory
  ro : List Addr
  deriving DecidableEq, Repr

/-- The environment that answers `Exchange` (20_memory.md R56, R57). The MODEL's own: `draws`
counts the exchanges, `script` holds answers a test double has fixed (`none`: left to the
stub or the free draw), `stub` is the reference environment if it is connected (log 6). -/
structure Env where
  draws : Nat
  script : List (Option Answer)
  stub : Option Stub
  deriving DecidableEq, Repr

/-- The state: `seq` to `cause` are the CORE's (10_state.md R20); the rest is the model's.
`result` is the variable `r` of `Txn`, between the return of its exchange and the response
(40_register_access.md R100; log 17).
`none` in a latch is the spec's own "no value" (10_state.md R42; log 1). -/
structure State where
  seq : Seq
  txn : TxnPhase
  cur : Option Command
  cs : Level
  rst : Option Level
  tx0 : Option Byte
  tx1 : Option Byte
  rx0 : Option Byte
  rx1 : Option Byte
  idSeen : Option Byte
  cause : BitVec 3
  result : Option Answer
  params : Params
  host : List HostAction
  env : Env
  trace : List Event
  history : List Event
  deriving DecidableEq, Repr

/-- Why the machine stops with a fault: there is no such reason. Every failure of the CORE is a
response (60_exceptions.md R155), and no rule reads a latch before it is written (10_state.md
R29), so no read is the fault of 93_implementation_defined.md U9 and U10. -/
inductive Fault where
  deriving DecidableEq, Repr

/-- Why the model gives a situation no meaning. -/
inductive Refusal where
  /-- Raised by no arm now; kept for an instruction without a meaning. Safe. -/
  | notModelled (mnemonic : String)
  /-- Raised by every meaning and by `step` under a configuration that breaks 00_scope.md R9
  (93_implementation_defined.md U16). Safe: the spec gives it no behaviour. -/
  | illegalConfiguration
  /-- Raised by `step` when the host resets the CORE while a command runs normally
  (70_reset_and_hazards.md R183). Unsafe as a missing move of the host: log 12. -/
  | resetWhileRunning
  /-- Raised by a transaction that would begin inside an open chip-select window
  (40_register_access.md R101: windows never overlap or nest). Safe; no run reaches it. -/
  | windowOpen
  deriving DecidableEq, Repr

/-- The three outcomes of a step of this machine. -/
abbrev Result := Host.Outcome State Fault Refusal

/-- The state right after a reset of a CORE of configuration `p` (10_state.md R42), with no
host action to come, no event recorded, and an environment of free draws. -/
def State.resetWith (p : Params) : State where
  seq := .idle
  txn := .none
  cur := none
  cs := p.csActive.other
  rst := none
  tx0 := none
  tx1 := none
  rx0 := none
  rx1 := none
  idSeen := none
  cause := 0
  result := none
  params := p
  host := []
  env := { draws := 0, script := [], stub := none }
  trace := []
  history := []

/-- The machine right after reset (10_state.md R42), in the configuration of 00_scope.md R8. -/
def State.reset : State := State.resetWith Params.default

end Sys2Proof.Machine
end

