-- ==== Sys2Proof/Machine/Environment.lean ====
section
/-! DEFINITION. The environment of the CORE: the registers of the reference peripheral as
canonical memory, and how `Exchange` and `SetLine` are answered (20_memory.md R56, R57, R62). -/

namespace Sys2Proof.Machine

/-- What a register of the reference peripheral that the map does not list holds
(95_test_vectors.md section 8: 0x00 everywhere except where stated; log 7). -/
def Memory.unlisted : Byte := 0x00

/-- The content of register `a`. -/
def Memory.get : Memory → Nat → Byte
  | [], _ => Memory.unlisted
  | (b, w) :: m, a => if a = b then w else Memory.get m a

/-- Register `a` now holds `v`; the canonical form is kept. -/
def Memory.set : Memory → Nat → Byte → Memory
  | [], a, v => if v = Memory.unlisted then [] else [(a, v)]
  | (b, w) :: m, a, v =>
    if a < b then (if v = Memory.unlisted then (b, w) :: m else (a, v) :: (b, w) :: m)
    else if a = b then (if v = Memory.unlisted then m else (a, v) :: m)
    else (b, w) :: Memory.set m a v

/-- Canonical from address `lo` on: addresses rise strictly, stay below 128, and no entry
holds the unlisted value. -/
def Memory.wfFrom : Nat → Memory → Bool
  | _, [] => true
  | lo, (a, v) :: m => lo ≤ a && a < 128 && v != Memory.unlisted && Memory.wfFrom (a + 1) m

/-- The one canonical form of a register map. -/
def Memory.wf (m : Memory) : Bool := Memory.wfFrom 0 m

/-- What the stub answers to the exchange of number `n` (20_memory.md R62). -/
def Stub.answer (n : Nat) (t0 t1 : Byte) (st : Stub) : Answer :=
  .ok (Config.freeFirst n)
    (if isWrite t0 then Config.freeSecond n t0 t1 else st.reg.get (addressOf t0).toNat)

/-- Whether `a` is in the stub's `RO`, which contains `ID_ADDR` (20_memory.md R62). -/
def Stub.readOnly (idAddr a : Addr) (st : Stub) : Bool := a = idAddr || st.ro.contains a

/-- What the stub's registers become by an exchange (20_memory.md R62). -/
def Stub.store (idAddr : Addr) (t0 t1 : Byte) (st : Stub) : Stub :=
  if isWrite t0 && !st.readOnly idAddr (addressOf t0) then
    { st with reg := st.reg.set (addressOf t0).toNat t1 }
  else st

/-- The free draw of exchange `n`: its outcome and, if it returns, its bytes, of which the first
does not depend on the frame (20_memory.md R57, R61). -/
def Env.drawn (n : Nat) (t0 t1 : Byte) : Answer :=
  match Config.freeReply n t0 t1 with
  | .ok => .ok (Config.freeFirst n) (Config.freeSecond n t0 t1)
  | .fail => .fail
  | .never => .never

/-- The environment's answer to the next exchange (20_memory.md R56, R57). -/
def Env.answer (t0 t1 : Byte) (e : Env) : Answer :=
  match e.script with
  | some r :: _ => r
  | _ =>
    match e.stub with
    | some st => st.answer e.draws t0 t1
    | none => Env.drawn e.draws t0 t1

/-- The environment after an exchange that has returned. An exchange whose answer the script
fixes does not reach the stub (95_test_vectors.md P5). -/
def Env.taken (idAddr : Addr) (t0 t1 : Byte) (e : Env) : Env :=
  { draws := e.draws + 1
    script := e.script.tail
    stub :=
      match e.script with
      | some _ :: _ => e.stub
      | _ => e.stub.map (Stub.store idAddr t0 t1) }

/-- The environment after a reset of the CORE has ended a hung exchange: that exchange is
over and the next one is a new one (log 10). -/
def Env.abandoned (e : Env) : Env :=
  { e with draws := e.draws + 1, script := e.script.tail }

/-- What driving a line does to the environment: the reset pulse reloads the stub's `reg0`;
the level of chip-select is ignored (20_memory.md R62). -/
def Env.onLine (id : LineId) (l : Level) (e : Env) : Env :=
  match id, l with
  | .rst, .low => { e with stub := e.stub.map fun st => { st with reg := st.reg0 } }
  | _, _ => e

/-- What register `a` of the reference peripheral holds, if it is connected. -/
def Env.register (a : Addr) (e : Env) : Option Byte := e.stub.map fun st => st.reg.get a.toNat

/-- The stub's two maps are in canonical form. -/
def Env.memoryWf (e : Env) : Bool :=
  match e.stub with
  | none => true
  | some st => st.reg.wf && st.reg0.wf

end Sys2Proof.Machine
end

