-- ==== Sys2Proof/Machine/Flags.lean ====
section
/-! DEFINITION. The three derived flags (10_state.md R30), the code numbers of the status
outputs (10_state.md R21, R23, R37; 60_exceptions.md R150), the response word
(30_encoding.md R91), and what the trace says of responses and holds. -/

namespace Sys2Proof.Machine

/-- `BUSY` (10_state.md R30). -/
def busy (s : State) : Bool := s.cur.isSome

/-- `READY`, which the gate tests (10_state.md R30; 41_sequencer.md R135). -/
def ready (s : State) : Bool := s.seq = .ready

/-- `FATAL` (10_state.md R30). -/
def fatal (s : State) : Bool := s.seq = .fatal

/-- The 3-bit code of `SEQ` (10_state.md R21). -/
def seqCode : Seq → BitVec 3
  | .idle => 0
  | .heldHigh => 1
  | .asserted => 2
  | .settling => 3
  | .verify => 4
  | .ready => 5
  | .fatal => 6

/-- The 2-bit code of `TXN` (10_state.md R23). -/
def txnCode : TxnPhase → BitVec 2
  | .none => 0
  | .selected => 1
  | .exchanged => 2

/-- The 3-bit status code (60_exceptions.md R150). -/
def statusCode : Status → BitVec 3
  | .ok => 0
  | .identityMismatch => 1
  | .transportFailure => 2
  | .gateClosed => 3
  | .notIdle => 4
  | .illegalCommand => 5

/-- The status outputs, continuously visible to the host (10_state.md R37, R40). -/
structure Outputs where
  seq : BitVec 3
  busy : Bool
  idSeen : Option Byte
  cause : BitVec 3
  deriving DecidableEq, Repr

/-- The values on the status outputs in a state (10_state.md R37). -/
def outputs (s : State) : Outputs where
  seq := seqCode s.seq
  busy := busy s
  idSeen := s.idSeen
  cause := s.cause

/-- The 11-bit response word: status in bits 10 to 8, data in bits 7 to 0 (30_encoding.md
R91). `absent` is what bits 7 to 0 carry when there is no data: a free value (log 9). -/
def responseWord (absent : Byte) (status : Status) (data : Option Byte) : BitVec 11 :=
  statusCode status ++ data.getD absent

/-- The responses a trace records, in order (00_scope.md R10). -/
def responses : List Event → List (Status × Option Byte)
  | [] => []
  | .resp st d :: es => (st, d) :: responses es
  | _ :: es => responses es

/-- The holds a trace records, in time-units and in order (20_memory.md R60). -/
def waits : List Event → List Nat
  | [] => []
  | .wait n :: es => n :: waits es
  | _ :: es => waits es

/-- The levels driven on the reset line, in order (41_sequencer.md R129). -/
def resetDrives : List Event → List Level
  | [] => []
  | .line .rst l :: es => l :: resetDrives es
  | _ :: es => resetDrives es

/-- The frames a trace's exchanges sent, in order, failed ones included (30_encoding.md R80). -/
def framesSent : List Event → List (Byte × Byte)
  | [] => []
  | .xchg t0 t1 _ _ :: es => (t0, t1) :: framesSent es
  | .xchgFail t0 t1 :: es => (t0, t1) :: framesSent es
  | _ :: es => framesSent es

/-- The least time, in microseconds, that the holds of a trace took (20_memory.md R60;
70_reset_and_hazards.md R205): a lower bound and nothing else. -/
def leastDuration (p : Params) (es : List Event) : Nat := (waits es).sum * p.timeUnit

end Sys2Proof.Machine
end

