-- ==== Sys2Proof/Machine/Ops.lean ====
section
/-! DEFINITION. The named operations of the CORE: the transport's primitives `SetLine`,
`Exchange`, `Delay` (20_memory.md R55 to R60), the transaction `Txn` (40_register_access.md
R100), the end of a command (30_encoding.md R91), the entry to the failed state
(60_exceptions.md R160, R161), the reset of the CORE beside it, and the acceptance of a command. -/

namespace Sys2Proof.Machine

/-- The level of chip-select that is `lvl(asserted)` (00_scope.md section 7). -/
def csAsserted (p : Params) : Level := p.csActive

/-- The level of chip-select that is `lvl(deasserted)` (00_scope.md section 7). -/
def csDeasserted (p : Params) : Level := p.csActive.other

/-- The constraints on a configuration (00_scope.md R9; 10_state.md R37). -/
def paramsLegal (p : Params) : Bool :=
  1 ≤ p.tHigh && 1 ≤ p.tLow && 1 ≤ p.tSettle && p.tLow ≤ p.tSettle && 1 ≤ p.timeUnit

/-- Record one event (00_scope.md R10). -/
def record (e : Event) (s : State) : State := { s with trace := s.trace ++ [e] }

/-- `SetLine(id, level)`: writes the line register, records the event even when the level
does not change, always returns (20_memory.md R58). -/
def setLine (id : LineId) (l : Level) (s : State) : State :=
  match id with
  | .cs => record (.line .cs l) { s with cs := l, env := s.env.onLine .cs l }
  | .rst => record (.line .rst l) { s with rst := some l, env := s.env.onLine .rst l }

/-- `Delay(n)`: always completes and records `Wait(n)` (20_memory.md R60). -/
def delay (n : Nat) (s : State) : State := record (.wait n) s

/-- `Respond(status, data)`: hands the response to the host and clears `CUR` (30_encoding.md R91). -/
def respond (st : Status) (data : Option Byte) (s : State) : State :=
  record (.resp st data) { s with cur := none }

/-- The beginning of `Txn`: the frame is latched and chip-select asserted (40_register_access.md R100);
its exchange has no result yet. -/
def openWindow (t0 t1 : Byte) (s : State) : State :=
  { setLine .cs (csAsserted s.params) { s with tx0 := some t0, tx1 := some t1, result := none } with
    txn := .selected }

/-- What an answer of `Exchange` does to the CORE (20_memory.md R56; 10_state.md R28): bytes
are latched, a failed exchange leaves `RX0`, `RX1` without a value, and one that never
returns changes nothing. What it returns is the result of `Txn` (40_register_access.md R100). -/
def exchangeWith (r : Answer) (t0 t1 : Byte) (s : State) : State :=
  match r with
  | .ok r0 r1 =>
    record (.xchg t0 t1 r0 r1)
      { s with rx0 := some r0, rx1 := some r1, txn := .exchanged, result := some (.ok r0 r1)
               env := s.env.taken s.params.idAddr t0 t1 }
  | .fail =>
    record (.xchgFail t0 t1)
      { s with rx0 := none, rx1 := none, txn := .exchanged, result := some .fail
               env := s.env.taken s.params.idAddr t0 t1 }
  | .never => s

/-- `Exchange(t0, t1)` (20_memory.md R55, R56). -/
def exchange (t0 t1 : Byte) (s : State) : State := exchangeWith (s.env.answer t0 t1) t0 t1 s

/-- The end of `Txn`: chip-select is released, after a failed exchange too (40_register_access.md R107). -/
def closeWindow (s : State) : State :=
  { setLine .cs (csDeasserted s.params) s with txn := .none }

/-- `Txn(t0, t1)` once the answer of its exchange is `r` (40_register_access.md R100). An
exchange that never returns leaves the window open (60_exceptions.md R154). -/
def txnWith (r : Answer) (t0 t1 : Byte) (s : State) : State :=
  match r with
  | .never => openWindow t0 t1 s
  | r => closeWindow (exchangeWith r t0 t1 (openWindow t0 t1 s))

/-- The command takes the result of its `Txn` (40_register_access.md R104, R108): it is consumed,
and nothing of it reaches the next command. -/
def takeResult (s : State) : State := { s with result := none }

/-- Run `k` only under a configuration the spec gives a behaviour (00_scope.md R9). -/
def guarded (s : State) (k : State → Result) : Result :=
  if paramsLegal s.params then k s else .refused .illegalConfiguration

/-- One transaction and what its caller makes of the answer: `k` is called with the answer
and the state after `Txn`. Windows never overlap or nest (40_register_access.md R101;
log 16). -/
def transaction (t0 t1 : Byte) (k : Answer → State → State) (s : State) : Result :=
  if s.txn = .none then
    .next (k (s.env.answer t0 t1) (txnWith (s.env.answer t0 t1) t0 t1 s))
  else .refused .windowOpen

/-- The CORE takes a word only when `BUSY` is false (10_state.md R24; 30_encoding.md R90): then
`CUR` is set and `k` runs; a busy CORE does not take the word and nothing changes (log 15). The
reserved word sets no value of `CUR` (`c = none`, log 13). -/
def accepting (c : Option Command) (s : State) (k : State → Result) : Result :=
  guarded s fun s => if busy s then .next s else k { s with cur := c }

/-- Taking the failure that makes `SEQ` `Fatal` (60_exceptions.md R160, R161): `CAUSE`, then
`SEQ`, then the response. Nothing is saved, there is no vector and no handler. -/
def enterFatal (st : Status) (data : Option Byte) (s : State) : State :=
  respond st data { s with cause := statusCode st, seq := .fatal }

/-- A reset of the CORE, the only way out of `Fatal`, of `Ready` and of a hang
(70_reset_and_hazards.md R180): every piece of the CORE's state gets its reset value and no
event is recorded; configuration, host, and environment are untouched (R182). -/
def coreReset (s : State) : State :=
  { State.resetWith s.params with
    host := s.host, env := s.env, history := s.history ++ s.trace }

/-- Whether the command in progress hangs in an exchange that never returns (60_exceptions.md R154). -/
def hung (s : State) : Bool :=
  match s.cur, s.txn, s.tx0, s.tx1 with
  | some _, .selected, some t0, some t1 => s.env.answer t0 t1 = .never
  | _, _, _, _ => false

/-- The core-reset event (70_reset_and_hazards.md R180, R183): defined when `BUSY` is false or
to end a hang; refused while a command runs normally. -/
def takeReset (s : State) : Result :=
  if busy s then
    if hung s then .next (coreReset { s with env := s.env.abandoned })
    else .refused .resetWhileRunning
  else .next (coreReset s)

/-- Continue after an outcome, if it is a next state. -/
def andThen (o : Result) (k : State → State) : Result :=
  match o with
  | .next s => .next (k s)
  | .fault f => .fault f
  | .refused r => .refused r

end Sys2Proof.Machine
end

