-- ==== Sys2Proof/Machine/RegisterAccess.lean ====
section
/-! DEFINITION. The register access family: `READ` (40_register_access.md R104) and `WRITE`
(40_register_access.md R108). -/

namespace Sys2Proof.Machine

/-- The end of `READ` after its transaction: the byte is `RX1` (40_register_access.md R104,
R111); a hung exchange gives no response (60_exceptions.md R154). -/
def finishRead : Answer → State → State
  | .ok _ _, s => respond .ok s.rx1 (takeResult s)
  | .fail, s => respond .transportFailure none (takeResult s)
  | .never, s => s

/-- The end of `WRITE` after its transaction: both received bytes are dropped
(40_register_access.md R108, R111). -/
def finishWrite : Answer → State → State
  | .ok _ _, s => respond .ok none (takeResult s)
  | .fail, s => respond .transportFailure none (takeResult s)
  | .never, s => s

/-- `READ a` (40_register_access.md R104; the gate is 41_sequencer.md R135). -/
def execRead (a : Addr) (s : State) : Result :=
  accepting (some (.read a)) s fun s =>
    if ready s then transaction (readFirstByte a) Literal.filler finishRead s
    else .next (respond .gateClosed none s)

/-- `WRITE a, v` (40_register_access.md R108; the gate is 41_sequencer.md R135). -/
def execWrite (a : Addr) (v : Byte) (s : State) : Result :=
  accepting (some (.write a v)) s fun s =>
    if ready s then transaction (writeFirstByte a) v finishWrite s
    else .next (respond .gateClosed none s)

end Sys2Proof.Machine
end

