-- ==== Sys2Proof/Machine/Reserved.lean ====
section
/-! DEFINITION. The reserved command word (30_encoding.md R92). -/

namespace Sys2Proof.Machine

/-- The reserved word: `Resp(IllegalCommand, none)` in every value of `SEQ`, no primitive is
called (30_encoding.md R92; 60_exceptions.md R153). -/
def execReserved (s : State) : Result :=
  accepting none s fun s => .next (respond .illegalCommand none s)

end Sys2Proof.Machine
end

