-- ==== Sys2Proof/Machine/Sequencer.lean ====
section
/-! DEFINITION. The sequencer family: `BRINGUP`, steps S1 to S5 (41_sequencer.md R120 to R131). -/

namespace Sys2Proof.Machine

/-- Step S1 up to its hold: `SetLine(RST, high)`, `SEQ <- HeldHigh` (41_sequencer.md R121). -/
def enterHeldHigh (s : State) : State := { setLine .rst .high s with seq := .heldHigh }

/-- Step S2 up to its hold: `SetLine(RST, low)`, `SEQ <- Asserted` (41_sequencer.md R122). -/
def enterAsserted (s : State) : State := { setLine .rst .low s with seq := .asserted }

/-- Step S3 up to its hold: `SetLine(RST, high)`, `SEQ <- Settling` (41_sequencer.md R123). -/
def enterSettling (s : State) : State := { setLine .rst .high s with seq := .settling }

/-- Step S4 up to its read: `SEQ <- Verify` (41_sequencer.md R124). -/
def enterVerify (s : State) : State := { s with seq := .verify }

/-- The holds of the three steps (41_sequencer.md R121 to R123). -/
def holdHigh (s : State) : State := delay s.params.tHigh s
def holdLow (s : State) : State := delay s.params.tLow s
def holdSettle (s : State) : State := delay s.params.tSettle s

/-- Steps S1 to S3 and the entry to `Verify`, in order (41_sequencer.md R128). -/
def resetPulse (s : State) : State :=
  enterVerify (holdSettle (enterSettling (holdLow (enterAsserted (holdHigh (enterHeldHigh s))))))

/-- Step S5 once a byte was received (41_sequencer.md R125, R126): all eight bits of `RX1` are
compared with `ID_EXPECTED`. -/
def judge (s : State) : State :=
  if s.rx1 = some s.params.idExpected then respond .ok s.rx1 { s with idSeen := s.rx1, seq := .ready }
  else enterFatal .identityMismatch s.rx1 { s with idSeen := s.rx1 }

/-- Step S5 (41_sequencer.md R125 to R127). -/
def finishBringup : Answer → State → State
  | .ok _ _, s => judge (takeResult s)
  | .fail, s => enterFatal .transportFailure none (takeResult s)
  | .never, s => s

/-- `BRINGUP` (41_sequencer.md R128, R131). -/
def execBringup (s : State) : Result :=
  accepting (some .bringup) s fun s =>
    if s.seq = .idle then
      transaction (readFirstByte s.params.idAddr) Literal.filler finishBringup (resetPulse s)
    else .next (respond .notIdle none s)

end Sys2Proof.Machine
end

