-- ==== Sys2Proof/Machine/Wire.lean ====
section
/-! DEFINITION. The wire frames (30_encoding.md R80): one register transaction each, a
chip-select window around one exchange (40_register_access.md R100). What the received bytes
mean is the calling command's affair (30_encoding.md R85). -/

namespace Sys2Proof.Machine

/-- The write frame: `Txn(a | 0x80, v)` (30_encoding.md R80; 20_memory.md R53). -/
def execWriteFrame (a : Addr) (v : Byte) (s : State) : Result :=
  guarded s (transaction (writeFirstByte a) v fun _ s => s)

/-- The read frame: `Txn(a & 0x7F, 0x00)` (30_encoding.md R80; 20_memory.md R52). -/
def execReadFrame (a : Addr) (s : State) : Result :=
  guarded s (transaction (readFirstByte a) Literal.filler fun _ s => s)

end Sys2Proof.Machine
end

