-- ==== Sys2Proof/Machine/Dispatch.lean ====
section
/-! DEFINITION. The dispatch: one arm per constructor of `Instr`. -/

namespace Sys2Proof.Machine

def exec (i : Instr) (s : State) : Host.Outcome State Fault Refusal :=
  match i with
  | .read a => Sys2Proof.Machine.execRead a s
  | .write a v => Sys2Proof.Machine.execWrite a v s
  | .bringup => Sys2Proof.Machine.execBringup s
  | .reserved => Sys2Proof.Machine.execReserved s
  | .writeFrame a v => Sys2Proof.Machine.execWriteFrame a v s
  | .readFrame a => Sys2Proof.Machine.execReadFrame a s

end Sys2Proof.Machine
end

