-- ==== Sys2Proof/Decode.lean ====
section
/-! DEFINITION. The decoder of command words (30_encoding.md R89, R90) and of wire frames
(30_encoding.md R80, R86), and after it the encoder, written from the same tables. -/

namespace Sys2Proof

/-- A word of one of the two encoding spaces. -/
inductive Code where
  | command (c : CommandWord)
  | frame (f : Frame)
  deriving DecidableEq, Repr

/-- Why a word is no instruction. -/
inductive DecodeError where
  /-- A frame with `F[15] = 0` and `F[7:0] ≠ 0`: the CORE never sends it (30_encoding.md R86). -/
  | unsentFrame
  /-- More bits than a frame or a command word has (30_encoding.md R80, R89). -/
  | tooManyBits
  deriving DecidableEq, Repr

/-- Decoding of a command word, total and decided by `C[16:15]` alone (30_encoding.md R90). -/
def decodeCommand (w : CommandWord) : Instr :=
  match w[16], w[15] with
  | false, false => .read (w.extractLsb' 8 7)
  | false, true => .write (w.extractLsb' 8 7) (w.extractLsb' 0 8)
  | true, false => .bringup
  | true, true => .reserved

/-- Decoding of a wire frame: the two formats of 30_encoding.md R80, and no others (R86). -/
def decodeFrame (f : Frame) : Except DecodeError Instr :=
  if f[15] then .ok (.writeFrame (f.extractLsb' 8 7) (f.extractLsb' 0 8))
  else if f.extractLsb' 0 8 = Literal.filler then .ok (.readFrame (f.extractLsb' 8 7))
  else .error .unsentFrame

/-- The decoder. -/
def decode : Code → Except DecodeError Instr
  | .command c => .ok (decodeCommand c)
  | .frame f => decodeFrame f

/-- The word a row of the opcode table gives: a row of at most 16 bits is a wire frame, a
longer one a command word of 17 bits. -/
def codeOfTableWord (nbits w : Nat) : Except DecodeError Code :=
  if nbits ≤ 16 then
    if w < 2 ^ 16 then .ok (.frame (BitVec.ofNat 16 w)) else .error .tooManyBits
  else if w < 2 ^ 17 then .ok (.command (BitVec.ofNat 17 w))
  else .error .tooManyBits

/-- What the decoder reads from the bits of a table word; `none` where it rejects them. -/
def decodeTableWord (nbits w : Nat) : Option Instr :=
  match codeOfTableWord nbits w with
  | .error _ => none
  | .ok k =>
    match decode k with
    | .error _ => none
    | .ok i => some i

/-- A command word with `C[16:15] = kind`, `C[14:8] = a`, `C[7:0] = d` (30_encoding.md R89). -/
def commandWord (kind : BitVec 2) (a : Addr) (d : Byte) : CommandWord :=
  kind.setWidth 17 <<< 15 ||| a.setWidth 17 <<< 8 ||| d.setWidth 17

/-- A frame with `F[15] = w`, `F[14:8] = a`, `F[7:0] = d` (30_encoding.md R80). -/
def frameWord (w : BitVec 1) (a : Addr) (d : Byte) : Frame :=
  w.setWidth 16 <<< 15 ||| a.setWidth 16 <<< 8 ||| d.setWidth 16

/-- The encoder (30_encoding.md R80 and R89; ignored bits are 0). -/
def encode : Instr → Code
  | .read a => .command (commandWord 0b00 a 0)
  | .write a v => .command (commandWord 0b01 a v)
  | .bringup => .command (commandWord 0b10 0 0)
  | .reserved => .command (commandWord 0b11 0 0)
  | .writeFrame a v => .frame (frameWord 1 a v)
  | .readFrame a => .frame (frameWord 0 a Literal.filler)

end Sys2Proof
end

