-- ==== Sys2Proof/Machine/Phases.lean ====
section
/-! DEFINITION. The phases of a command in progress: `SEQ` and `TXN` are the CORE's program
counter (10_state.md R21, R23), and `advance` takes the command of `CUR` from one of their
values to the next. It gives the values the status outputs show while a command runs
(10_state.md R40) and what is left of a command that has begun (00_scope.md R7). -/

namespace Sys2Proof.Machine

/-- What `Txn` has returned, or that its exchange has not (40_register_access.md R100; log 17). -/
def lastAnswer (s : State) : Answer := s.result.getD .never

/-- The frame a command puts on the wire (40_register_access.md R104, R108; 41_sequencer.md R124). -/
def commandFrame (p : Params) : Command → Byte × Byte
  | .bringup => (readFirstByte p.idAddr, Literal.filler)
  | .read a => (readFirstByte a, Literal.filler)
  | .write a v => (writeFirstByte a, v)

/-- The end of command `c` after its transaction. -/
def finishCommand (c : Command) (s : State) : State :=
  match c with
  | .bringup => finishBringup (lastAnswer s) s
  | .read _ => finishRead (lastAnswer s) s
  | .write _ _ => finishWrite (lastAnswer s) s

/-- Both transmit latches written before they are read (10_state.md R29): a latch that holds a
value keeps it, one that holds none takes the byte of `Txn`'s frame. Every window is opened with
both latches written, so in a safe state nothing changes (log 19). -/
def latchFrame (t0 t1 : Byte) (s : State) : State :=
  { s with tx0 := some (s.tx0.getD t0), tx1 := some (s.tx1.getD t1) }

/-- The exchange of the window of `Txn(t0, t1)`: it sends what `TX0` and `TX1` hold (10_state.md R27). -/
def exchangeLatched (t0 t1 : Byte) (s : State) : State :=
  exchange (s.tx0.getD t0) (s.tx1.getD t1) (latchFrame t0 t1 s)

/-- The next phase of a command with no transaction in flight (40_register_access.md R104, R108;
41_sequencer.md R128). -/
def begin (c : Command) (s : State) : State :=
  match c with
  | .read a =>
    if ready s then openWindow (readFirstByte a) Literal.filler s else respond .gateClosed none s
  | .write a v =>
    if ready s then openWindow (writeFirstByte a) v s else respond .gateClosed none s
  | .bringup =>
    match s.seq with
    | .idle => enterHeldHigh s
    | .heldHigh => enterAsserted (holdHigh s)
    | .asserted => enterSettling (holdLow s)
    | .settling => enterVerify (holdSettle s)
    | .verify => openWindow (readFirstByte s.params.idAddr) Literal.filler s
    | .ready => respond .notIdle none s
    | .fatal => respond .notIdle none s

/-- One phase of the command in progress; without one, nothing happens. -/
def advance (s : State) : Result :=
  match s.cur with
  | none => .next s
  | some c =>
    match s.txn with
    | .none => .next (begin c s)
    | .selected => .next (exchangeLatched (commandFrame s.params c).1 (commandFrame s.params c).2 s)
    | .exchanged => .next (finishCommand c (closeWindow s))

/-- At most `n` phases, up to the response. A hung exchange stays where it is (60_exceptions.md R154). -/
def resume : Nat → State → Result
  | 0, s => .next s
  | n + 1, s =>
    if busy s then
      match advance s with
      | .next s' => resume n s'
      | .fault f => .fault f
      | .refused r => .refused r
    else .next s

/-- The number of phases of the longest command, `BRINGUP` from `Idle`. -/
def longestCommand : Nat := 7

/-- The frame the command in progress is about to put on the wire, if it has come that far:
a register command past the gate, or `BRINGUP` in `Verify` (40_register_access.md R103). -/
def pendingFrame (s : State) : Option Instr :=
  match s.txn, s.cur with
  | .none, some (.read a) => if ready s then some (.readFrame a) else none
  | .none, some (.write a v) => if ready s then some (.writeFrame a v) else none
  | .none, some .bringup => if s.seq = .verify then some (.readFrame s.params.idAddr) else none
  | _, _ => none

/-- A CORE that is free and whose host offers the word `c` next (10_state.md R24, R40; log 14). -/
def stageCommand (c : CommandWord) (s : State) : State :=
  { s with cur := none, txn := .none, cs := csDeasserted s.params, host := .word c :: s.host }

/-- A CORE brought up (10_state.md R41) whose register command `c` is past the gate and about
to put its frame on the wire, with no reset coming first (log 14). -/
def stageTransaction (c : Command) (s : State) : State :=
  { s with
    cur := some c, seq := .ready, txn := .none, cs := csDeasserted s.params, rst := some .high
    idSeen := some s.params.idExpected, cause := 0, host := s.host.dropWhile (· == .coreReset) }

/-- A CORE whose next step runs the word `k`; a frame is sent only by a register command
(40_register_access.md R103), and one that is never sent (30_encoding.md R86) cannot be staged. -/
def stage (k : Code) (s : State) : State :=
  match k with
  | .command c => stageCommand c s
  | .frame f =>
    match decodeFrame f with
    | .ok (.readFrame a) => stageTransaction (.read a) s
    | .ok (.writeFrame a v) => stageTransaction (.write a v) s
    | _ => s

/-- `stage` on a word of the opcode table; more bits than its space has stage nothing. -/
def stageTableWord (nbits w : Nat) (s : State) : State :=
  match codeOfTableWord nbits w with
  | .ok k => stage k s
  | .error _ => s

end Sys2Proof.Machine
end

