-- ==== Sys2Proof/Machine/Step.lean ====
section
/-! DEFINITION. One step of the machine. A free CORE takes the host's next action: a command
word, decoded and run to its response (00_scope.md R7), or a reset of the CORE. A command in
progress is finished first, and its host is not heard but for a reset (10_state.md R24;
70_reset_and_hazards.md R183). Without a host action nothing happens (70_reset_and_hazards.md R181). -/

namespace Sys2Proof.Machine

/-- One step. -/
def step (s : State) : Host.Outcome State Fault Refusal :=
  guarded s fun s =>
    match s.host, s.cur with
    | .coreReset :: rest, _ => takeReset { s with host := rest }
    | _, some c =>
      match pendingFrame s with
      | some i => andThen (exec i s) (finishCommand c)
      | none => resume longestCommand s
    | .word w :: rest, none => exec (decodeCommand w) { s with host := rest }
    | [], none => .next s

/-- The state whose next step runs the instruction of a table word (log 14). -/
def State.withFetchWord (s : State) (nbits w : Nat) : State := stageTableWord nbits w s

end Sys2Proof.Machine
end

