-- ==== Sys2Proof/Safety.lean ====
section
/-! DEFINITION. What counts as a safe state and a safe trace: the invariants of 10_state.md R41,
the chip-select discipline of 40_register_access.md R101, the frame space of 30_encoding.md
R84 and R86, and the canonical form of the reference peripheral's memory. -/

namespace Sys2Proof.Machine

/-- A CORE that may take a command: a configuration the spec gives a behaviour (00_scope.md R9),
`BUSY` false (10_state.md R24), no transaction in flight (10_state.md R41.6). -/
structure Accepts (s : State) : Prop where
  legal : paramsLegal s.params = true
  free : s.cur = none
  closed : s.txn = .none

/-- The next exchange of the frame `t0 t1` is answered `r` (20_memory.md R56). -/
def Answers (s : State) (t0 t1 : Byte) (r : Answer) : Prop := s.env.answer t0 t1 = r

/-- The verification exchange of a `BRINGUP` accepted in `s` is answered `r`; the reset pulse
has reached the environment before it (41_sequencer.md R128). -/
def VerifyAnswers (s : State) (r : Answer) : Prop :=
  (s.env.onLine .rst .low).answer (readFirstByte s.params.idAddr) Literal.filler = r

/-- The state of a hang (60_exceptions.md R154). -/
structure Hung (s : State) : Prop where
  legal : paramsLegal s.params = true
  pending : hung s = true

/-- The seven invariants of 10_state.md R41, in its order, one field per implication. -/
structure Inv (s : State) : Prop where
  released : s.txn = .none → s.cs = csDeasserted s.params
  selected : s.txn ≠ .none → s.cs = csAsserted s.params
  window : s.txn ≠ .none → s.seq = .verify ∨ s.seq = .ready
  undriven : s.seq = .idle → s.rst = none
  pulsed : s.seq = .asserted → s.rst = some .low
  notResetting : s.seq ≠ .idle → s.seq ≠ .asserted → s.rst = some .high
  identified : s.seq = .ready → s.idSeen = some s.params.idExpected ∧ s.cause = 0
  failed : s.seq = .fatal → s.cause = 1 ∨ s.cause = 2
  mismatch : s.cause = 1 → s.idSeen ≠ none ∧ s.idSeen ≠ some s.params.idExpected
  unread : s.cause = 2 → s.idSeen = none
  atRest : s.cur = none → s.txn = .none ∧ (s.seq = .idle ∨ s.seq = .ready ∨ s.seq = .fatal)
  gated : ∀ c, s.cur = some c → c ≠ .bringup → s.txn ≠ .none → s.seq = .ready

/-- A frame the CORE can send (30_encoding.md R80, R86). -/
def legalFrame (t0 t1 : Byte) : Bool := isWrite t0 || t1 == Literal.filler

/-- What else holds of a command in progress, and makes the seven invariants inductive: the
sequencer moves only under `BRINGUP` (10_state.md R22), `IDSEEN` and `CAUSE` are unwritten
before its verdict (10_state.md R36), an open window has the command's frame latched
(40_register_access.md R100), and an exchange that has returned has left its result and the
receive latches as 10_state.md R28 says. -/
structure InProgress (s : State) : Prop where
  sequencing : ∀ c, s.cur = some c → c ≠ .bringup → s.seq = .idle ∨ s.seq = .ready ∨ s.seq = .fatal
  verifying : s.cur = some .bringup → s.txn ≠ .none → s.seq = .verify
  unjudged : s.seq ≠ .ready → s.seq ≠ .fatal → s.idSeen = none ∧ s.cause = 0
  latched : s.txn ≠ .none → ∀ c, s.cur = some c →
    s.tx0 = some (commandFrame s.params c).1 ∧ s.tx1 = some (commandFrame s.params c).2
  received : s.txn = .exchanged → (∃ r0 r1, s.result = some (.ok r0 r1) ∧ s.rx0 = some r0 ∧ s.rx1 = some r1) ∨
    (s.result = some .fail ∧ s.rx0 = none ∧ s.rx1 = none)

/-- Every frame of a trace is one the CORE can send (30_encoding.md R84, R86). -/
def framesLegal (es : List Event) : Bool := (framesSent es).all fun f => legalFrame f.1 f.2

/-- The chip-select discipline read off a trace (40_register_access.md R101): from phase `p`,
the events of the line `CS` and the exchanges form windows of exactly one exchange each;
the phase the trace ends in, or `none` where it breaks the pattern. -/
def scanWindows (active : Level) : TxnPhase → List Event → Option TxnPhase
  | p, [] => some p
  | p, .line .cs l :: es =>
    if l = active then
      match p with
      | .none => scanWindows active .selected es
      | _ => none
    else
      match p with
      | .exchanged => scanWindows active .none es
      | _ => none
  | p, .xchg _ _ _ _ :: es =>
    match p with
    | .selected => scanWindows active .exchanged es
    | _ => none
  | p, .xchgFail _ _ :: es =>
    match p with
    | .selected => scanWindows active .exchanged es
    | _ => none
  | p, _ :: es => scanWindows active p es

/-- The trace since the CORE's reset keeps the chip-select discipline and ends in the window
phase that `TXN` names (40_register_access.md R101; 10_state.md R23). -/
def Disciplined (s : State) : Prop :=
  scanWindows s.params.csActive .none s.trace = some s.txn

/-- A state of the CORE that the rules can reach: R41, and what carries it from phase to phase. -/
structure Safe (s : State) : Prop where
  inv : Inv s
  inProgress : InProgress s

/-- The events of one transaction whose exchange recorded `e` (40_register_access.md R100). -/
def windowEvents (p : Params) (e : Event) : List Event :=
  [.line .cs (csAsserted p), e, .line .cs (csDeasserted p)]

/-- The events of steps S1 to S3 of `BRINGUP` (41_sequencer.md R121 to R123). -/
def pulseEvents (p : Params) : List Event :=
  [.line .rst .high, .wait p.tHigh, .line .rst .low, .wait p.tLow, .line .rst .high, .wait p.tSettle]

/-- How many chip-select windows a trace opens: one per call of `Txn` (40_register_access.md R100). -/
def windowsOpened (active : Level) (es : List Event) : Nat := es.count (.line .cs active)

/-- The edges of the sequencer (10_state.md R22). -/
def seqEdge : Seq → Seq → Bool
  | .idle, .heldHigh => true
  | .heldHigh, .asserted => true
  | .asserted, .settling => true
  | .settling, .verify => true
  | .verify, .ready => true
  | .verify, .fatal => true
  | _, _ => false

/-- The host resets the CORE next (10_state.md R40). -/
def ResetNext (s : State) : Prop := ∃ rest, s.host = .coreReset :: rest

/-- Everything that happened up to `s`, earlier runs of the CORE included (00_scope.md R10). -/
def wholeTrace (s : State) : List Event := s.history ++ s.trace

end Sys2Proof.Machine
end

