-- ==== Sys2Proof/WellFormed.lean ====
section
/-! DEFINITION. Which commands over abstract numbers are well formed (30_encoding.md R93,
93_implementation_defined.md U1). A term of `Instr` is well formed by its types: a 7-bit
address and a byte cannot be out of range (20_memory.md R64). -/

namespace Sys2Proof

/-- Why a command over abstract numbers is refused. -/
inductive IllFormed where
  /-- An address above 127 (30_encoding.md R93): refused, never truncated. -/
  | addressAbove127 (a : Nat)
  /-- A payload that is no 8-bit value. DESIGN CHOICE, log 18: 30_encoding.md R84 gives a payload
  256 values, and no rule says what a host library does with another number. -/
  | valueAbove255 (v : Nat)
  deriving DecidableEq, Repr

/-- The caller contract of 30_encoding.md R93: addresses 0 to 127, payloads any byte. -/
def RawCommand.wellFormed : RawCommand → Bool
  | .bringup => true
  | .read a => a < 128
  | .write a v => a < 128 && v < 256

/-- The command the numbers name; an ill-formed one is refused by name and has no frame. Where
both numbers are out of range the address is named (log 18). -/
def RawCommand.check : RawCommand → Except IllFormed Instr
  | .bringup => .ok .bringup
  | .read a => if a < 128 then .ok (.read (BitVec.ofNat 7 a)) else .error (.addressAbove127 a)
  | .write a v =>
    if 128 ≤ a then .error (.addressAbove127 a)
    else if 256 ≤ v then .error (.valueAbove255 v)
    else .ok (.write (BitVec.ofNat 7 a) (BitVec.ofNat 8 v))

end Sys2Proof
end

