-- ==== Sys2Proof/Certificates/Slice0/Obligations.lean ====
section
/-! DEFINITION. The statements for the provers, family by family: encodings, transactions,
commands, the phases of the sequencer, noninterference, invariants, whole-machine rules,
frames, the environment, the step. `Accepts`, `Answers`, `Safe` and the other premises are
defined in Sys2Proof/Safety.lean. -/

open Sys2Proof Sys2Proof.Machine

/-- For every instruction, with every operand at every value, decode of its encoding is that
instruction: no bit of a command word or of a wire frame is dropped. (30_encoding.md section 1,
30_encoding.md section 3, 92_eei_decisions.md D3.) -/
def Obligations.DecodeUndoesEncode : Prop := ∀ i : Instr, decode (encode i) = .ok i

/-- Each of the 131,072 command words decodes as READ, WRITE, BRINGUP or the reserved word by its
two top bits, with A in bits 14 to 8 and D in bits 7 to 0; two words with equal top bits that
differ only in ignored bits decode alike. The word is the spec's own choice (92_eei_decisions.md
D3). (30_encoding.md section 3, 92_eei_decisions.md D3.) -/
def Obligations.CommandWordsDecodeByTopBits : Prop :=
  (∀ c : CommandWord,
    (c.toNat < 0x8000 → decodeCommand c = .read (BitVec.ofNat 7 (c.toNat / 256))) ∧
    (0x8000 ≤ c.toNat ∧ c.toNat < 0x10000 →
      decodeCommand c = .write (BitVec.ofNat 7 (c.toNat / 256)) (BitVec.ofNat 8 c.toNat)) ∧
    (0x10000 ≤ c.toNat ∧ c.toNat < 0x18000 → decodeCommand c = .bringup) ∧
    (0x18000 ≤ c.toNat → decodeCommand c = .reserved)) ∧
  ∀ c c' : CommandWord, c.extractLsb' 15 2 = c'.extractLsb' 15 2 →
    (c.getLsbD 16 = true ∨ c.getLsbD 15 = false ∧ c.extractLsb' 8 7 = c'.extractLsb' 8 7) →
    decodeCommand c = decodeCommand c'

/-- The low 16 bits of the word of WRITE a, v are the write frame; bits 15 to 8 of the word of READ
a are the first byte of the read frame; and the frames are the two bytes the operand forms
assemble. (30_encoding.md section 3, 92_eei_decisions.md D3.) -/
def Obligations.CommandWordCarriesFrame : Prop :=
  ∀ (a : Addr) (v : Byte),
    (∃ c, encode (.write a v) = .command c ∧ encode (.writeFrame a v) = .frame (c.setWidth 16) ∧
      c.setWidth 16 = writeFirstByte a ++ v) ∧
    ∃ c, encode (.read a) = .command c ∧ c.extractLsb' 8 8 = readFirstByte a ∧
      encode (.readFrame a) = .frame (readFirstByte a ++ Literal.filler)

/-- For every address the first byte of a write is 0x80 OR-ed in, that is 1 followed by the address,
and of a read the address masked to 7 bits, that is 0 followed by the address; they differ only
in bit 7; masking gives the address back; the values lie in 0x80 to 0xFF and 0x00 to 0x7F; the
map from intent and address is a bijection onto the 256 bytes. (R81, R82, R83.) -/
def Obligations.FramingKeepsAddressAndFlag : Prop :=
  (∀ a : Addr,
    writeFirstByte a = a.setWidth 8 ||| 0x80 ∧ readFirstByte a = a.setWidth 8 &&& 0x7F ∧
    writeFirstByte a = 1#1 ++ a ∧ readFirstByte a = 0#1 ++ a ∧
    writeFirstByte a ^^^ readFirstByte a = 0x80 ∧
    (a.setWidth 8 ||| 0x80) &&& 0x7F = a.setWidth 8 &&& 0x7F ∧ a.setWidth 8 &&& 0x7F = (a.setWidth 8 : Byte) ∧
    0x80 ≤ (writeFirstByte a).toNat ∧ (readFirstByte a).toNat ≤ 0x7F ∧
    (writeFirstByte a).toNat = 128 + a.toNat ∧ (readFirstByte a).toNat = a.toNat) ∧
  ∀ b : Byte, ∃! wa : Bool × Addr, b = if wa.1 then writeFirstByte wa.2 else readFirstByte wa.2

/-- A frame decodes as the write frame of a and v exactly when it is 1 a v, as the read frame of a
exactly when it is 0 a 0x00, and is rejected exactly when bit 15 is 0 and the second byte is not
0x00; no frame decodes to anything else; its first byte is the address with the flag and its
second byte the value or the filler. (30_encoding.md section 1, 30_encoding.md section 2.) -/
def Obligations.TwoFrameFormatsOnly : Prop :=
  ∀ f : Frame,
    (∀ (a : Addr) (v : Byte), decodeFrame f = .ok (.writeFrame a v) ↔ f = 1#1 ++ a ++ v) ∧
    (∀ a : Addr, decodeFrame f = .ok (.readFrame a) ↔ f = 0#1 ++ a ++ 0#8) ∧
    (decodeFrame f = .error .unsentFrame ↔ f.getLsbD 15 = false ∧ f.extractLsb' 0 8 ≠ 0) ∧
    (∀ i, decodeFrame f = .ok i → (∃ a v, i = .writeFrame a v) ∨ ∃ a, i = .readFrame a) ∧
    (∀ (a : Addr) (v : Byte), (1#1 ++ a ++ v).extractLsb' 8 8 = writeFirstByte a ∧
      (1#1 ++ a ++ v).extractLsb' 0 8 = v ∧ (0#1 ++ a ++ 0#8).extractLsb' 8 8 = readFirstByte a)

/-- The spec's own vectors: 0x04200 is READ 0x42, 0x08180 is WRITE 0x01, 0x80, 0x17FFF is BRINGUP,
0x1FFFF is reserved, frame 81 80 writes 0x80 to 0x01, frame 42 00 reads 0x42. Frame 42 01 stands
in no vector: it has bit 15 = 0 and a second byte other than 0x00, so it is never sent
(30_encoding.md section 2) and the decoder rejects it. (95_test_vectors.md section 2,
95_test_vectors.md section 6, 30_encoding.md section 2.) -/
def Obligations.SampleWordsDecode : Prop :=
  decodeTableWord 17 0x04200 = some (.read 0x42) ∧
  decodeTableWord 17 0x08180 = some (.write 0x01 0x80) ∧
  decodeTableWord 17 0x17FFF = some .bringup ∧
  decodeTableWord 17 0x1FFFF = some .reserved ∧
  decodeTableWord 16 0x8180 = some (.writeFrame 0x01 0x80) ∧
  decodeTableWord 16 0x4200 = some (.readFrame 0x42) ∧
  decodeTableWord 16 0x4201 = none

/-- READ and WRITE over abstract numbers give the command with exactly those numbers when the
address is at most 127 (and the value at most 255), and are refused by name otherwise. Refusing
an address is the spec's choice (92_eei_decisions.md D13); refusing a value above 255, and
naming the address where both are out of range, is the model's (log 18). (30_encoding.md section
4, 92_eei_decisions.md D13, 93_implementation_defined.md U1.) -/
def Obligations.AddressAbove127IsRefused : Prop :=
  ∀ a v : Nat,
    (a < 128 → ∃ x : Addr, x.toNat = a ∧ RawCommand.check (.read a) = .ok (.read x)) ∧
    (a < 128 → v < 256 → ∃ (x : Addr) (y : Byte), x.toNat = a ∧ y.toNat = v ∧
      RawCommand.check (.write a v) = .ok (.write x y)) ∧
    (128 ≤ a → RawCommand.check (.read a) = .error (.addressAbove127 a) ∧
      RawCommand.check (.write a v) = .error (.addressAbove127 a)) ∧
    (a < 128 → 256 ≤ v → RawCommand.check (.write a v) = .error (.valueAbove255 v))

/-- With no window open, the write frame and the read frame latch their two bytes, assert chip-
select, exchange, and deassert chip-select; the received bytes are latched when the exchange
returns ok, RX0 and RX1 hold no value when it fails, and when it never returns chip-select stays
asserted and TXN stays Selected; the three events are recorded in that order and nothing else
changes but the result of Txn, which is the answer (log 17), and the environment (log 6).
Release after a failure is 92_eei_decisions.md D11, no timeout D12, latches without a value D20
(held as Options, log 1); that a frame is an instruction of its own is the model's choice (log
14). (40_register_access.md section 1, 10_state.md section 4, 92_eei_decisions.md D11,
92_eei_decisions.md D12, 92_eei_decisions.md D20.) -/
def Obligations.FrameIsOneTransaction : Prop :=
  ∀ (i : Instr) (t0 t1 : Byte),
    ((∃ a v, i = .writeFrame a v ∧ t0 = writeFirstByte a ∧ t1 = v) ∨
      ∃ a, i = .readFrame a ∧ t0 = readFirstByte a ∧ t1 = 0x00) →
    ∀ s : State, paramsLegal s.params = true → s.txn = .none →
    (∀ r0 r1, Answers s t0 t1 (.ok r0 r1) →
      exec i s = .next { s with
        tx0 := some t0, tx1 := some t1, rx0 := some r0, rx1 := some r1, result := some (.ok r0 r1)
        cs := csDeasserted s.params, env := s.env.taken s.params.idAddr t0 t1
        trace := s.trace ++ windowEvents s.params (.xchg t0 t1 r0 r1) }) ∧
    (Answers s t0 t1 .fail →
      exec i s = .next { s with
        tx0 := some t0, tx1 := some t1, rx0 := none, rx1 := none, result := some .fail
        cs := csDeasserted s.params, env := s.env.taken s.params.idAddr t0 t1
        trace := s.trace ++ windowEvents s.params (.xchgFail t0 t1) }) ∧
    (Answers s t0 t1 .never →
      exec i s = .next { s with
        tx0 := some t0, tx1 := some t1, txn := .selected, cs := csAsserted s.params, result := none
        trace := s.trace ++ [.line .cs (csAsserted s.params)] })

/-- With a transaction in flight, neither frame begins another: the model refuses by name
(windowOpen), its own rendering of 'windows never overlap or nest' (log 16).
(40_register_access.md section 1, 20_memory.md section 5.) -/
def Obligations.FrameInsideWindowIsRefused : Prop :=
  ∀ (a : Addr) (v : Byte) (s : State), paramsLegal s.params = true → s.txn ≠ .none →
    exec (.writeFrame a v) s = .refused .windowOpen ∧ exec (.readFrame a) s = .refused .windowOpen

/-- A free CORE in Ready: READ a performs one transaction with the read frame; when it returns ok
the response carries the second received byte; when it fails the response is TransportFailure
without a byte; nothing else changes. That the failure is reported with this status is
92_eei_decisions.md D11, that RX0 and RX1 then hold no value D20 (log 1); the command takes the
result of its Txn, so none is left (log 17), and what the environment is after it is the model's
own bookkeeping (log 6). (40_register_access.md section 2, 40_register_access.md section 4,
20_memory.md section 1, 92_eei_decisions.md D11, 92_eei_decisions.md D20.) -/
def Obligations.ReadThroughOpenGate : Prop :=
  ∀ (a : Addr) (s : State), Accepts s → s.seq = .ready →
    (∀ r0 r1, Answers s (readFirstByte a) 0x00 (.ok r0 r1) →
      exec (.read a) s = .next { s with
        tx0 := some (readFirstByte a), tx1 := some 0x00, rx0 := some r0, rx1 := some r1, result := none
        cs := csDeasserted s.params, env := s.env.taken s.params.idAddr (readFirstByte a) 0x00
        trace := s.trace ++ windowEvents s.params (.xchg (readFirstByte a) 0x00 r0 r1) ++ [.resp .ok (some r1)] }) ∧
    (Answers s (readFirstByte a) 0x00 .fail →
      exec (.read a) s = .next { s with
        tx0 := some (readFirstByte a), tx1 := some 0x00, rx0 := none, rx1 := none, result := none
        cs := csDeasserted s.params, env := s.env.taken s.params.idAddr (readFirstByte a) 0x00
        trace := s.trace ++ windowEvents s.params (.xchgFail (readFirstByte a) 0x00) ++ [.resp .transportFailure none] })

/-- A free CORE in Ready: WRITE a, v performs one transaction with the write frame; when it returns
ok the response is OK without data, whatever was received; when it fails the response is
TransportFailure; nothing else changes. That the failure is reported with this status is
92_eei_decisions.md D11, that RX0 and RX1 then hold no value D20 (log 1); the command takes the
result of its Txn, so none is left (log 17), and what the environment is after it is the model's
own bookkeeping (log 6). (40_register_access.md section 3, 40_register_access.md section 4,
20_memory.md section 1, 92_eei_decisions.md D11, 92_eei_decisions.md D20.) -/
def Obligations.WriteThroughOpenGate : Prop :=
  ∀ (a : Addr) (v : Byte) (s : State), Accepts s → s.seq = .ready →
    (∀ r0 r1, Answers s (writeFirstByte a) v (.ok r0 r1) →
      exec (.write a v) s = .next { s with
        tx0 := some (writeFirstByte a), tx1 := some v, rx0 := some r0, rx1 := some r1, result := none
        cs := csDeasserted s.params, env := s.env.taken s.params.idAddr (writeFirstByte a) v
        trace := s.trace ++ windowEvents s.params (.xchg (writeFirstByte a) v r0 r1) ++ [.resp .ok none] }) ∧
    (Answers s (writeFirstByte a) v .fail →
      exec (.write a v) s = .next { s with
        tx0 := some (writeFirstByte a), tx1 := some v, rx0 := none, rx1 := none, result := none
        cs := csDeasserted s.params, env := s.env.taken s.params.idAddr (writeFirstByte a) v
        trace := s.trace ++ windowEvents s.params (.xchgFail (writeFirstByte a) v) ++ [.resp .transportFailure none] })

/-- A free CORE whose SEQ is not Ready: READ and WRITE record the one response GateClosed without
data and leave every other piece of state as it was. The refusal is the spec's choice
(92_eei_decisions.md D5). (41_sequencer.md section 2, 92_eei_decisions.md D5.) -/
def Obligations.GateClosedOutsideReady : Prop :=
  ∀ (a : Addr) (v : Byte) (s : State), Accepts s → s.seq ≠ .ready →
    exec (.read a) s = .next { s with trace := s.trace ++ [.resp .gateClosed none] } ∧
    exec (.write a v) s = .next { s with trace := s.trace ++ [.resp .gateClosed none] }

/-- After a failed exchange of READ or WRITE, chip-select is released, SEQ stays Ready, IDSEEN and
CAUSE are unchanged, exactly one frame was sent, the response is TransportFailure without a
byte, and the CORE accepts the next command. The path is the spec's choice (92_eei_decisions.md
D11). (40_register_access.md section 4, 60_exceptions.md section 4, 92_eei_decisions.md D11.) -/
def Obligations.RegisterFailureLeavesGateOpen : Prop :=
  ∀ (c : Command) (s : State), c ≠ .bringup → Accepts s → s.seq = .ready →
    Answers s (commandFrame s.params c).1 (commandFrame s.params c).2 .fail →
    ∃ t, exec c.instr s = .next t ∧ Accepts t ∧ t.seq = .ready ∧ t.cs = csDeasserted s.params ∧
      t.idSeen = s.idSeen ∧ t.cause = s.cause ∧ t.rx0 = none ∧ t.rx1 = none ∧
      framesSent t.trace = framesSent s.trace ++ [commandFrame s.params c] ∧
      responses t.trace = responses s.trace ++ [(.transportFailure, none)]

/-- A free CORE in Idle: BRINGUP drives the reset line high, low, high with its three holds, reads
ID_ADDR once, and when the second received byte is ID_EXPECTED sets IDSEEN, sets SEQ to Ready,
leaves CAUSE (0 in every safe such state), and answers OK with IDSEEN; no other byte is
examined. The command takes the result of its Txn, so none is left (log 17), and what the
environment is after it is the model's own bookkeeping (log 6). (41_sequencer.md section 1,
40_register_access.md section 1.) -/
def Obligations.BringupMatchOpensGate : Prop :=
  ∀ (s : State) (r0 : Byte), Accepts s → s.seq = .idle → VerifyAnswers s (.ok r0 s.params.idExpected) →
    (Safe s → s.cause = 0) ∧ exec .bringup s = .next { s with
        seq := .ready, rst := some .high, cs := csDeasserted s.params, result := none
        tx0 := some (readFirstByte s.params.idAddr), tx1 := some 0x00, rx0 := some r0, rx1 := some s.params.idExpected
        idSeen := some s.params.idExpected
        env := (s.env.onLine .rst .low).taken s.params.idAddr (readFirstByte s.params.idAddr) 0x00
        trace := s.trace ++ pulseEvents s.params ++
          windowEvents s.params (.xchg (readFirstByte s.params.idAddr) 0x00 r0 s.params.idExpected) ++
          [.resp .ok (some s.params.idExpected)] }

/-- A free CORE in Idle: when the second received byte of the verification read differs from
ID_EXPECTED, BRINGUP sets IDSEEN to it, CAUSE to 1, SEQ to Fatal and answers IdentityMismatch
with the byte; every one of the 255 other values has the same effect; nothing is retried. The
command takes the result of its Txn, so none is left (log 17), and what the environment is after
it is the model's own bookkeeping (log 6). (41_sequencer.md section 1, 40_register_access.md
section 1, 60_exceptions.md section 4.) -/
def Obligations.BringupMismatchIsFatal : Prop :=
  ∀ (s : State) (r0 r1 : Byte), Accepts s → s.seq = .idle → r1 ≠ s.params.idExpected →
    VerifyAnswers s (.ok r0 r1) →
    exec .bringup s = .next { s with
        seq := .fatal, rst := some .high, cs := csDeasserted s.params, result := none
        tx0 := some (readFirstByte s.params.idAddr), tx1 := some 0x00, rx0 := some r0, rx1 := some r1
        idSeen := some r1, cause := 1
        env := (s.env.onLine .rst .low).taken s.params.idAddr (readFirstByte s.params.idAddr) 0x00
        trace := s.trace ++ pulseEvents s.params ++
          windowEvents s.params (.xchg (readFirstByte s.params.idAddr) 0x00 r0 r1) ++
          [.resp .identityMismatch (some r1)] }

/-- A free CORE in Idle: when the verification exchange fails, chip-select is released, CAUSE
becomes 2, SEQ Fatal, IDSEEN is not written, and the response is TransportFailure without a
byte. The path is the spec's choice (92_eei_decisions.md D11). The command takes the result of
its Txn, so none is left (log 17), and what the environment is after it is the model's own
bookkeeping (log 6). (41_sequencer.md section 1, 60_exceptions.md section 4, 92_eei_decisions.md
D11.) -/
def Obligations.BringupTransportFailureIsFatal : Prop :=
  ∀ s : State, Accepts s → s.seq = .idle → VerifyAnswers s .fail →
    exec .bringup s = .next { s with
        seq := .fatal, rst := some .high, cs := csDeasserted s.params, result := none
        tx0 := some (readFirstByte s.params.idAddr), tx1 := some 0x00, rx0 := none, rx1 := none
        cause := 2
        env := (s.env.onLine .rst .low).taken s.params.idAddr (readFirstByte s.params.idAddr) 0x00
        trace := s.trace ++ pulseEvents s.params ++
          windowEvents s.params (.xchgFail (readFirstByte s.params.idAddr) 0x00) ++
          [.resp .transportFailure none] }

/-- A free CORE whose SEQ is not Idle: BRINGUP records the one response NotIdle without data; the
reset line is not pulsed and every other piece of state is as it was. The refusal is the spec's
choice (92_eei_decisions.md D6). (41_sequencer.md section 1, 92_eei_decisions.md D6.) -/
def Obligations.BringupOnlyFromIdle : Prop :=
  ∀ s : State, Accepts s → s.seq ≠ .idle →
    exec .bringup s = .next { s with trace := s.trace ++ [.resp .notIdle none] }

/-- A free CORE in any SEQ: the reserved word records the one response IllegalCommand without data,
calls no primitive and leaves every other piece of state as it was. The reserved encoding is the
spec's choice (92_eei_decisions.md D3). (30_encoding.md section 4, 92_eei_decisions.md D3.) -/
def Obligations.ReservedWordIsRefusedEverywhere : Prop :=
  ∀ s : State, Accepts s →
    exec .reserved s = .next { s with trace := s.trace ++ [.resp .illegalCommand none] }

/-- When the exchange of READ, WRITE or BRINGUP never returns, CUR holds the command, TXN is
Selected, chip-select is asserted, SEQ is Ready (READ, WRITE) or Verify (BRINGUP), the last
event is the assertion of chip-select, and no response is recorded. No timeout is the spec's
choice (92_eei_decisions.md D12); that no result is held is log 17, how the reset line reaches
the environment log 6. (60_exceptions.md section 1, 92_eei_decisions.md D12.) -/
def Obligations.HangLeavesWindowOpen : Prop :=
  (∀ (c : Command) (s : State), c ≠ .bringup → Accepts s → s.seq = .ready →
    Answers s (commandFrame s.params c).1 (commandFrame s.params c).2 .never →
    exec c.instr s = .next { s with
      cur := some c, txn := .selected, cs := csAsserted s.params, result := none
      tx0 := some (commandFrame s.params c).1, tx1 := some (commandFrame s.params c).2
      trace := s.trace ++ [.line .cs (csAsserted s.params)] }) ∧
  ∀ s : State, Accepts s → s.seq = .idle → VerifyAnswers s .never →
    exec .bringup s = .next { s with
      cur := some .bringup, txn := .selected, cs := csAsserted s.params, seq := .verify, rst := some .high
      result := none, tx0 := some (readFirstByte s.params.idAddr), tx1 := some 0x00, env := s.env.onLine .rst .low
      trace := s.trace ++ pulseEvents s.params ++ [.line .cs (csAsserted s.params)] }

/-- A hung CORE steps to itself for ever, whatever words its host offers, unless the host resets it;
then every piece of its state has its reset value, no event is recorded, and configuration and
environment stay (that the hung exchange is then over is the model's choice, log 10).
(60_exceptions.md section 1, 70_reset_and_hazards.md section 1, 92_eei_decisions.md D12,
92_eei_decisions.md D23.) -/
def Obligations.HangLastsUntilReset : Prop :=
  ∀ s : State, Hung s →
    (¬ ResetNext s → step s = .next s) ∧
    ∀ rest, s.host = .coreReset :: rest →
      step s = .next { State.resetWith s.params with
        host := rest, env := s.env.abandoned, history := s.history ++ s.trace }

/-- While BRINGUP is in progress with no transaction in flight: from Idle the reset line is driven
high and SEQ becomes HeldHigh; from HeldHigh, after the hold T_HIGH, it is driven low and SEQ
becomes Asserted; from Asserted, after T_LOW, it is driven high and SEQ becomes Settling; from
Settling, after T_SETTLE, SEQ becomes Verify; from Verify the window of the verification read
opens. Nothing else changes. The cut into phases, each hold at the start of the phase after it,
is the model's choice (log 11); the spec gives each step as a drive, a move of SEQ and a hold;
that opening a window removes an earlier result of Txn is log 17, how the reset line reaches the
environment log 6. (41_sequencer.md section 1, 40_register_access.md section 1, 10_state.md
section 2.) -/
def Obligations.SequencerPhases : Prop :=
  ∀ s : State, s.cur = some .bringup → s.txn = .none →
    (s.seq = .idle → advance s = .next { s with
      seq := .heldHigh, rst := some .high, trace := s.trace ++ [.line .rst .high] }) ∧
    (s.seq = .heldHigh → advance s = .next { s with
      seq := .asserted, rst := some .low, env := s.env.onLine .rst .low
      trace := s.trace ++ [.wait s.params.tHigh, .line .rst .low] }) ∧
    (s.seq = .asserted → advance s = .next { s with
      seq := .settling, rst := some .high, trace := s.trace ++ [.wait s.params.tLow, .line .rst .high] }) ∧
    (s.seq = .settling → advance s = .next { s with
      seq := .verify, trace := s.trace ++ [.wait s.params.tSettle] }) ∧
    (s.seq = .verify → advance s = .next { s with
      tx0 := some (readFirstByte s.params.idAddr), tx1 := some 0x00, txn := .selected
      cs := csAsserted s.params, result := none, trace := s.trace ++ [.line .cs (csAsserted s.params)] })

/-- For each of the three commands and every free CORE in a safe state, the meaning of the command
(the pseudocode of the spec) equals the phase machine, in which SEQ and TXN are the program
counter, run from the acceptance of the command to its response or hang. The cut into phases is
the model's choice (log 11), and so is where the result of Txn is kept between them (log 17).
(40_register_access.md section 1, 40_register_access.md section 2, 40_register_access.md section
3, 41_sequencer.md section 1, 10_state.md section 2.) -/
def Obligations.PhasesRefineCommands : Prop :=
  ∀ (c : Command) (s : State), Safe s → Accepts s →
    exec c.instr s = resume longestCommand { s with cur := some c }

/-- In every safe state, a phase of a command in progress either keeps SEQ or belongs to BRINGUP and
moves SEQ along Idle, HeldHigh, Asserted, Settling, Verify, then Ready or Fatal; Ready and Fatal
have no outgoing edge. (10_state.md section 2, 41_sequencer.md section 3, 92_eei_decisions.md
D6.) -/
def Obligations.SequencerMovesAlongItsEdges : Prop :=
  ∀ s t : State, Safe s → advance s = .next t →
    t.seq = s.seq ∨ s.cur = some .bringup ∧ seqEdge s.seq t.seq = true

/-- A free CORE in Idle, whatever the verification exchange answers: BRINGUP completes or hangs in a
next state whose trace has exactly three more holds, T_HIGH, T_LOW, T_SETTLE (1, 1, 5 by
default), T_LOW at most T_SETTLE; the three reset-line drives and holds come before chip-select
is asserted and none comes after; the holds take at least their sum of time-units. Drives are
counted as 92_eei_decisions.md D28 decides; the bound on time is the spec's own inference
(70_reset_and_hazards.md section 4) in the model's unit, microseconds (log 3). (41_sequencer.md
section 1, 20_memory.md section 2, 70_reset_and_hazards.md section 4, 00_scope.md section 5,
92_eei_decisions.md D28.) -/
def Obligations.HoldsAreRequestedInOrder : Prop :=
  ∀ s : State, Accepts s → s.seq = .idle →
    s.params.tLow ≤ s.params.tSettle ∧
    (Params.default.tHigh, Params.default.tLow, Params.default.tSettle) = (1, 1, 5) ∧
    ∃ t es, exec .bringup s = .next t ∧
      t.trace = s.trace ++ pulseEvents s.params ++ .line .cs (csAsserted s.params) :: es ∧
      resetDrives es = [] ∧ waits es = [] ∧
      waits t.trace = waits s.trace ++ [s.params.tHigh, s.params.tLow, s.params.tSettle] ∧
      leastDuration s.params t.trace = leastDuration s.params s.trace +
        (s.params.tHigh + s.params.tLow + s.params.tSettle) * s.params.timeUnit

/-- Two runs of READ a from the same state whose exchanges answer ok(r0, r1) and ok(r0', r1) give
the same responses and the same state apart from RX0 (and, of the model's own fields, the
recorded exchange and the environment). (R106.) -/
def Obligations.ReadDependsOnSecondByteOnly : Prop :=
  ∀ (a : Addr) (s : State) (e e' : Env) (r0 r0' r1 : Byte), Accepts s → s.seq = .ready →
    e.answer (readFirstByte a) 0x00 = .ok r0 r1 → e'.answer (readFirstByte a) 0x00 = .ok r0' r1 →
    ∃ t t', exec (.read a) { s with env := e } = .next t ∧ exec (.read a) { s with env := e' } = .next t' ∧
      responses t.trace = responses s.trace ++ [(.ok, some r1)] ∧ responses t'.trace = responses t.trace ∧
      t' = { t with rx0 := some r0', env := t'.env, trace := t'.trace }

/-- Two runs of WRITE a, v from the same state whose exchanges return any bytes give the same
response OK without data, send the same frame, and leave the same state apart from RX0 and RX1
(and, of the model's own fields, the recorded exchange and the environment).
(40_register_access.md section 3, 30_encoding.md section 1.) -/
def Obligations.WriteDropsReceivedBytes : Prop :=
  ∀ (a : Addr) (v : Byte) (s : State) (e e' : Env) (r0 r0' r1 r1' : Byte), Accepts s → s.seq = .ready →
    e.answer (writeFirstByte a) v = .ok r0 r1 → e'.answer (writeFirstByte a) v = .ok r0' r1' →
    ∃ t t', exec (.write a v) { s with env := e } = .next t ∧
      exec (.write a v) { s with env := e' } = .next t' ∧
      responses t.trace = responses s.trace ++ [(.ok, none)] ∧ responses t'.trace = responses t.trace ∧
      framesSent t.trace = framesSent s.trace ++ [(writeFirstByte a, v)] ∧
      framesSent t'.trace = framesSent t.trace ∧
      t' = { t with rx0 := some r0', rx1 := some r1', env := t'.env, trace := t'.trace }

/-- Right after reset SEQ is Idle, TXN None, CUR none, BUSY false, CS high, RST, the four latches
and IDSEEN hold no value, CAUSE is 0, the gate is shut, and no event is recorded. Most of these
values are the spec's choices (92_eei_decisions.md D8 to D10, D19, D20). (10_state.md section
10, 70_reset_and_hazards.md section 1, 92_eei_decisions.md D8, 92_eei_decisions.md D9.) -/
def Obligations.ResetValues : Prop :=
  State.reset.seq = .idle ∧ State.reset.txn = .none ∧ State.reset.cur = none ∧ busy State.reset = false ∧
  State.reset.cs = .high ∧ State.reset.rst = none ∧ State.reset.tx0 = none ∧ State.reset.tx1 = none ∧
  State.reset.rx0 = none ∧ State.reset.rx1 = none ∧ State.reset.idSeen = none ∧ State.reset.cause = 0 ∧
  ready State.reset = false ∧ wholeTrace State.reset = []

/-- For every configuration the state after reset meets the invariants of 10_state.md section 9 and
those of a command in progress, its trace keeps the chip-select discipline and holds only legal
frames, and the reference memory is canonical. The last three clauses rest on the model's
choices: the trace is empty at reset (log 8), no reference environment is connected then (log
6), and the canonical form is log 7. (10_state.md section 9, 10_state.md section 10, 00_scope.md
section 6, 20_memory.md section 2.) -/
def Obligations.ResetStateIsSafe : Prop :=
  ∀ p : Params, Safe (State.resetWith p) ∧ Disciplined (State.resetWith p) ∧
    framesLegal (State.resetWith p).trace = true ∧ (State.resetWith p).env.memoryWf = true

/-- From every state that meets the seven invariants of 10_state.md section 9 (and what holds of a
command in progress), a step that answers a next state gives a state that meets them.
(10_state.md section 9.) -/
def Obligations.StepKeepsSafe : Prop := ∀ s t : State, Safe s → step s = .next t → Safe t

/-- The seven invariants hold not only between commands but at every intermediate position of SEQ
and TXN while a command runs: each phase keeps them. (10_state.md section 9, 10_state.md section
2.) -/
def Obligations.AdvanceKeepsSafe : Prop := ∀ s t : State, Safe s → advance s = .next t → Safe t

/-- If the trace since the CORE's reset consists of windows of exactly one exchange each, ending in
the phase TXN names, then after any step it still does; the trace may end inside a window only
in a hang. (R101.) -/
def Obligations.StepKeepsChipSelectDiscipline : Prop :=
  (∀ s t : State, Disciplined s → step s = .next t → Disciplined t) ∧
  ∀ s t : State, Safe s → step s = .next t → s.cur = none → t.txn ≠ .none → hung t = true

/-- From every safe state whose trace holds only legal frames a step gives such a state: the CORE
never sends a read frame with another filler; a performed WRITE a, v sends v as it is as its
second byte and a performed READ sends 0x00. (R84.) -/
def Obligations.StepSendsOnlyLegalFrames : Prop :=
  (∀ s t : State, Safe s → framesLegal s.trace = true → step s = .next t → framesLegal t.trace = true) ∧
  ∀ (a : Addr) (v r0 r1 : Byte) (s : State), Accepts s → s.seq = .ready →
    (Answers s (writeFirstByte a) v (.ok r0 r1) → ∃ t, exec (.write a v) s = .next t ∧
      framesSent t.trace = framesSent s.trace ++ [(writeFirstByte a, v)]) ∧
    (Answers s (readFirstByte a) 0x00 (.ok r0 r1) → ∃ t, exec (.read a) s = .next t ∧
      framesSent t.trace = framesSent s.trace ++ [(readFirstByte a, 0x00)])

/-- If both maps of the reference environment are canonical (addresses strictly rising below 128, no
entry equal to the unlisted value), they are so after any step. The form is the model's choice
(log 7). (20_memory.md section 2, 95_test_vectors.md section 8.) -/
def Obligations.StepKeepsMemoryCanonical : Prop :=
  ∀ s t : State, s.env.memoryWf = true → step s = .next t → t.env.memoryWf = true

/-- A step that answers a next state leaves every parameter as it was, and the parameters satisfy
the constraints: each hold at least 1, T_LOW at most T_SETTLE, the time-unit positive.
(00_scope.md section 5, 92_eei_decisions.md D16.) -/
def Obligations.StepKeepsConfiguration : Prop :=
  ∀ s t : State, step s = .next t →
    t.params = s.params ∧ 1 ≤ s.params.tHigh ∧ 1 ≤ s.params.tLow ∧ 1 ≤ s.params.tSettle ∧
      s.params.tLow ≤ s.params.tSettle ∧ 1 ≤ s.params.timeUnit

/-- Every step that answers a next state extends the whole event trace (a reset of the CORE
included); when the host resets the CORE the whole trace is unchanged. (00_scope.md section 6,
70_reset_and_hazards.md section 1, 92_eei_decisions.md D27.) -/
def Obligations.TraceOnlyGrows : Prop :=
  ∀ s t : State, step s = .next t →
    (∃ es, wholeTrace t = wholeTrace s ++ es) ∧ (ResetNext s → wholeTrace t = wholeTrace s)

/-- If a step from a safe free CORE opens the gate, the host offered a BRINGUP word in Idle, the
step recorded the reset pulse, one read of ID_ADDR that returned ID_EXPECTED, and the response
OK with it, and IDSEEN holds ID_EXPECTED. (60_exceptions.md section 6, 41_sequencer.md section
2.) -/
def Obligations.GateOpensOnlyByMatchingVerification : Prop :=
  ∀ s t : State, Safe s → s.cur = none → step s = .next t → s.seq ≠ .ready → t.seq = .ready →
    s.seq = .idle ∧ t.idSeen = some s.params.idExpected ∧
    (∃ w rest, s.host = .word w :: rest ∧ decodeCommand w = .bringup) ∧
    ∃ r0, t.trace = s.trace ++ pulseEvents s.params ++
      windowEvents s.params (.xchg (readFirstByte s.params.idAddr) 0x00 r0 s.params.idExpected) ++
      [.resp .ok (some s.params.idExpected)]

/-- From every safe state in Ready, a step that is no reset of the CORE leaves SEQ at Ready and does
not re-verify: IDSEEN, CAUSE and the reset line are unchanged, whatever the exchange answered or
returned. (R137.) -/
def Obligations.GateStaysOpenUntilReset : Prop :=
  ∀ s t : State, Safe s → s.seq = .ready → ¬ ResetNext s → step s = .next t →
    t.seq = .ready ∧ t.idSeen = s.idSeen ∧ t.cause = s.cause ∧ t.rst = s.rst

/-- From every safe state in Fatal, a step that is no reset of the CORE leaves SEQ, IDSEEN, CAUSE
and both lines as they were, and every event it records is a response GateClosed, NotIdle or
IllegalCommand without data. (60_exceptions.md section 4, 60_exceptions.md section 5,
92_eei_decisions.md D6.) -/
def Obligations.FatalIsTerminal : Prop :=
  ∀ s t : State, Safe s → s.seq = .fatal → ¬ ResetNext s → step s = .next t →
    t.seq = .fatal ∧ t.idSeen = s.idSeen ∧ t.cause = s.cause ∧ t.cs = s.cs ∧ t.rst = s.rst ∧
    ∃ es, t.trace = s.trace ++ es ∧
      ∀ e ∈ es, e = .resp .gateClosed none ∨ e = .resp .notIdle none ∨ e = .resp .illegalCommand none

/-- For every command word and every free CORE, the decoded command gives a next state; either its
events end with its one response and the CORE is free, or it hangs with no response. Data is
present only with OK or IdentityMismatch. (30_encoding.md section 3, 60_exceptions.md section 1,
92_eei_decisions.md D4.) -/
def Obligations.EveryCommandEndsWithOneResponse : Prop :=
  ∀ (w : CommandWord) (s : State), Accepts s →
    ∃ t es, exec (decodeCommand w) s = .next t ∧ t.trace = s.trace ++ es ∧
      ((t.cur = none ∧ t.txn = .none ∧ ∃ st d, es.getLast? = some (.resp st d) ∧ responses es = [(st, d)] ∧
          (d.isSome = true → st = .ok ∨ st = .identityMismatch)) ∨
        (hung t = true ∧ responses es = []))

/-- READ a and WRITE a, v through the open gate open exactly one chip-select window, whatever the
exchange answers, and put their one frame on the wire exactly once when it returns; READ then
produces the second received byte and WRITE nothing. (R114.) -/
def Obligations.PerformedCommandIsOneTransaction : Prop :=
  ∀ (c : Command) (s : State), c ≠ .bringup → Accepts s → s.seq = .ready →
    ∃ t, exec c.instr s = .next t ∧
      windowsOpened (csAsserted s.params) t.trace = windowsOpened (csAsserted s.params) s.trace + 1 ∧
      (¬ Answers s (commandFrame s.params c).1 (commandFrame s.params c).2 .never →
        framesSent t.trace = framesSent s.trace ++ [commandFrame s.params c]) ∧
      ∀ r0 r1, Answers s (commandFrame s.params c).1 (commandFrame s.params c).2 (.ok r0 r1) →
        ((∃ a, c = .read a) → responses t.trace = responses s.trace ++ [(.ok, some r1)]) ∧
        ((∃ a v, c = .write a v) → responses t.trace = responses s.trace ++ [(.ok, none)])

/-- Whenever READ a, or the read frame of a, gives a next state: SEQ, RST, IDSEEN, CAUSE, the
configuration, the host's actions and the earlier history are unchanged, and every register of
the reference peripheral reads as before. CUR, TXN, CS, the four latches, the result of Txn (log
17) and the trace may change. (40_register_access.md section 2, 20_memory.md section 1.) -/
def Obligations.ReadFrame : Prop :=
  ∀ (a : Addr) (i : Instr) (s t : State), i = .read a ∨ i = .readFrame a → exec i s = .next t →
    t.seq = s.seq ∧ t.rst = s.rst ∧ t.idSeen = s.idSeen ∧ t.cause = s.cause ∧ t.params = s.params ∧
    t.host = s.host ∧ t.history = s.history ∧ ∀ b : Addr, t.env.register b = s.env.register b

/-- Whenever WRITE a, v, or the write frame of a and v, gives a next state: SEQ, RST, IDSEEN, CAUSE,
the configuration, the host's actions and the earlier history are unchanged, and every register
of the reference peripheral reads as before but the one whose address the first byte carries.
CUR, TXN, CS, the four latches, the result of Txn (log 17) and the trace may change.
(40_register_access.md section 3, 20_memory.md section 1.) -/
def Obligations.WriteFrame : Prop :=
  ∀ (a : Addr) (v : Byte) (i : Instr) (s t : State), i = .write a v ∨ i = .writeFrame a v → exec i s = .next t →
    t.seq = s.seq ∧ t.rst = s.rst ∧ t.idSeen = s.idSeen ∧ t.cause = s.cause ∧ t.params = s.params ∧
    t.host = s.host ∧ t.history = s.history ∧
    ∀ b : Addr, b ≠ addressOf (writeFirstByte a) → t.env.register b = s.env.register b

/-- Whenever BRINGUP gives a next state, the configuration, the host's actions and the earlier
history are unchanged, and every register of the reference peripheral reads as before, or, where
the pulse was given, as the pulse left it. Whenever the reserved word gives a next state,
everything but the trace is unchanged. (41_sequencer.md section 1, 30_encoding.md section 4.) -/
def Obligations.BringupAndReservedFrame : Prop :=
  (∀ s t : State, exec .bringup s = .next t →
    t.params = s.params ∧ t.host = s.host ∧ t.history = s.history ∧
    ∀ b : Addr, t.env.register b =
      if s.cur = none ∧ s.seq = .idle then (s.env.onLine .rst .low).register b else s.env.register b) ∧
  ∀ s t : State, exec .reserved s = .next t → t = { s with trace := t.trace }

/-- With the reference environment connected and no answer scripted: after WRITE a, v through the
open gate, READ a answers OK with v if a is not read-only there, and with the byte it held
before if a is read-only (ID_ADDR is). (20_memory.md section 2, 20_memory.md section 6,
92_eei_decisions.md D24.) -/
def Obligations.RoundTripThroughReferencePeripheral : Prop :=
  ∀ (a : Addr) (v : Byte) (s : State) (st : Stub), Accepts s → s.seq = .ready → s.env.stub = some st →
    s.env.script = [] → st.reg.wf = true →
    ∃ t u, exec (.write a v) s = .next t ∧ exec (.read a) t = .next u ∧
      responses u.trace = responses s.trace ++ [(.ok, none)] ++
        [(.ok, some (if st.readOnly s.params.idAddr a then st.reg.get a.toNat else v))]

/-- Under a legal configuration, a CORE with no command in progress whose host's next action is a
command word takes it: the step is exec of the decoded instruction, with that action gone from
the host's list. (10_state.md section 8, 30_encoding.md section 3, 92_eei_decisions.md D26.) -/
def Obligations.StepRunsOfferedWord : Prop :=
  ∀ (s : State) (w : CommandWord) (rest : List HostAction), paramsLegal s.params = true → s.cur = none →
    s.host = .word w :: rest → step s = exec (decodeCommand w) { s with host := rest }

/-- Under a legal configuration, with no reset coming, a CORE whose command in progress is about to
put the frame i on the wire steps by exec of i and then the end of the command (its response, or
nothing where the exchange hangs). That a step finishes a command in progress at once, and that
the frame is an instruction exec runs, are the model's choices (logs 11 and 14).
(40_register_access.md section 1, 00_scope.md section 4.) -/
def Obligations.StepRunsPendingFrame : Prop :=
  ∀ (s : State) (c : Command) (i : Instr), paramsLegal s.params = true → ¬ ResetNext s → s.cur = some c →
    pendingFrame s = some i → step s = andThen (exec i s) (finishCommand c)

/-- A CORE with no command in progress: when its host does nothing the step changes nothing; when
its host resets it every piece of the CORE's state gets its reset value, no event is recorded,
and configuration, environment and the rest of the host's actions stay. (70_reset_and_hazards.md
section 1, 92_eei_decisions.md D23.) -/
def Obligations.FreeCoreWaitsOrResets : Prop :=
  ∀ s : State, paramsLegal s.params = true → s.cur = none →
    (s.host = [] → step s = .next s) ∧
    ∀ rest, s.host = .coreReset :: rest → step s = .next { State.resetWith s.params with
      host := rest, env := s.env, history := s.history ++ s.trace }

/-- A CORE with a command in progress that is not hung, whose host resets it: the step is the
refusal resetWhileRunning. (70_reset_and_hazards.md section 1, 93_implementation_defined.md U6,
92_eei_decisions.md D23.) -/
def Obligations.ResetWhileRunningIsRefused : Prop :=
  ∀ (s : State) (rest : List HostAction), paramsLegal s.params = true → s.cur ≠ none → hung s = false →
    s.host = .coreReset :: rest → step s = .refused .resetWhileRunning

/-- With a command in progress and no reset coming, a step leaves the host's list of actions as it
was; and offered to a busy CORE, each of the four command instructions changes nothing.
(10_state.md section 2, 30_encoding.md section 3, 92_eei_decisions.md D26.) -/
def Obligations.BusyCoreTakesNoWord : Prop :=
  (∀ s t : State, s.cur ≠ none → ¬ ResetNext s → step s = .next t → t.host = s.host) ∧
  ∀ (w : CommandWord) (s : State), paramsLegal s.params = true → s.cur ≠ none →
    exec (decodeCommand w) s = .next s

/-- The configuration is legal exactly when each hold is at least 1, T_LOW is at most T_SETTLE and
the time-unit is positive; under any other, step and every instruction are refused by name.
(00_scope.md section 5, 93_implementation_defined.md U16, 92_eei_decisions.md D16.) -/
def Obligations.IllegalConfigurationIsRefused : Prop :=
  (∀ p : Params, paramsLegal p = true ↔
    1 ≤ p.tHigh ∧ 1 ≤ p.tLow ∧ 1 ≤ p.tSettle ∧ p.tLow ≤ p.tSettle ∧ 1 ≤ p.timeUnit) ∧
  ∀ (s : State) (i : Instr), paramsLegal s.params = false →
    step s = .refused .illegalConfiguration ∧ exec i s = .refused .illegalConfiguration

/-- For every state of a legal configuration: after staging a command word the next step is exec of
the command it decodes to; after staging the frame of a register command the next step is exec
of that frame and the end of that command. How a word is staged is the model's choice (log 14).
(30_encoding.md section 3, 40_register_access.md section 1.) -/
def Obligations.StagedWordRunsNext : Prop :=
  ∀ s : State, paramsLegal s.params = true →
    (∀ w : CommandWord, step (s.withFetchWord 17 w.toNat) =
      exec (decodeCommand w) { stageCommand w s with host := s.host }) ∧
    (∀ (a : Addr) (v : Byte), step (s.withFetchWord 16 (1#1 ++ a ++ v).toNat) =
      andThen (exec (.writeFrame a v) (stageTransaction (.write a v) s)) (finishCommand (.write a v))) ∧
    (∀ a : Addr, step (s.withFetchWord 16 (0#1 ++ a ++ 0#8).toNat) =
      andThen (exec (.readFrame a) (stageTransaction (.read a) s)) (finishCommand (.read a)))

/-- For every status and data byte the 11-bit response word is 256 times the status code plus the
byte, whatever the value of an absent byte would be; the six status codes are 0 to 5 in the
order of the table. The numbers are the spec's choice (92_eei_decisions.md D4). (30_encoding.md
section 3, 60_exceptions.md section 1, 92_eei_decisions.md D4.) -/
def Obligations.ResponseWordLayout : Prop :=
  (∀ (absent : Byte) (st : Status) (d : Byte),
    (responseWord absent st (some d)).toNat = 256 * (statusCode st).toNat + d.toNat) ∧
  (∀ (absent : Byte) (st : Status),
    (responseWord absent st none).toNat / 256 = (statusCode st).toNat) ∧
  statusCode .ok = 0 ∧ statusCode .identityMismatch = 1 ∧ statusCode .transportFailure = 2 ∧
  statusCode .gateClosed = 3 ∧ statusCode .notIdle = 4 ∧ statusCode .illegalCommand = 5

/-- Two frames offered to the same environment that both return bytes return the same first byte: r0
is captured while t0 is sent and cannot depend on it. That it does not depend on t1, sent later,
is the model's inference, and that a script, the stub or a free draw answers is its choice (log
6). (20_memory.md section 2.) -/
def Obligations.FirstByteDoesNotDependOnFrame : Prop :=
  ∀ (e : Env) (t0 t1 t0' t1' r0 r1 r0' r1' : Byte),
    e.answer t0 t1 = .ok r0 r1 → e.answer t0' t1' = .ok r0' r1' → r0 = r0'

/-- In a safe state with the window of a command open, the exchange sends TX0 and TX1, which hold
the command's frame: when it returns ok both bytes are latched, when it fails RX0 and RX1 hold
no value, and TXN becomes Exchanged; when it never returns nothing changes. In any state with
the window open a latch that holds no value is first written with its byte of the frame, so no
latch is read unwritten (log 19), and every phase of every state answers a next state. The
phases (log 11) and the place of the result of Txn (log 17) are the model's choices.
(10_state.md section 4, 20_memory.md section 2, 40_register_access.md section 1,
92_eei_decisions.md D20.) -/
def Obligations.ExchangePhaseSendsTheLatches : Prop :=
  (∀ (s : State) (c : Command) (t0 t1 : Byte), Safe s → s.cur = some c → s.txn = .selected →
    s.tx0 = some t0 → s.tx1 = some t1 →
    (t0, t1) = commandFrame s.params c ∧
    (∀ r0 r1, Answers s t0 t1 (.ok r0 r1) → advance s = .next { s with
      rx0 := some r0, rx1 := some r1, txn := .exchanged, result := some (.ok r0 r1)
      env := s.env.taken s.params.idAddr t0 t1, trace := s.trace ++ [.xchg t0 t1 r0 r1] }) ∧
    (Answers s t0 t1 .fail → advance s = .next { s with
      rx0 := none, rx1 := none, txn := .exchanged, result := some .fail
      env := s.env.taken s.params.idAddr t0 t1, trace := s.trace ++ [.xchgFail t0 t1] }) ∧
    (Answers s t0 t1 .never → advance s = .next s)) ∧
  (∀ (s : State) (c : Command), s.cur = some c → s.txn = .selected →
    (s.tx0 = none → advance s = advance { s with tx0 := some (commandFrame s.params c).1 }) ∧
    (s.tx1 = none → advance s = advance { s with tx1 := some (commandFrame s.params c).2 })) ∧
  ∀ s : State, ∃ t, advance s = .next t

/-- Two states that differ in RX0 only end a command in states that differ in RX0 only; for a WRITE,
and for every command whose exchange failed, the same holds of RX0 and RX1 together. Where the
result of Txn is kept is the model's choice (log 17). (10_state.md section 4,
40_register_access.md section 3.) -/
def Obligations.ResponseDoesNotReadTheFirstByte : Prop :=
  (∀ (c : Command) (s : State) (x : Option Byte),
    finishCommand c { s with rx0 := x } = { finishCommand c s with rx0 := x }) ∧
  ∀ (c : Command) (s : State) (x y : Option Byte), (∃ a v, c = .write a v) ∨ s.result = some .fail →
    finishCommand c { s with rx0 := x, rx1 := y } = { finishCommand c s with rx0 := x, rx1 := y }
end

