-- ==== Sys2Proof/Laws/Memory.lean ====
section
/-! SUPPORT. The register map of the reference peripheral: a read after a write, that a write
leaves every other register alone, and that every operation keeps the canonical form. -/

namespace Sys2Proof.Machine

theorem Memory.wfFrom_cons {lo b : Nat} {w : Byte} {m : Memory} :
    Memory.wfFrom lo ((b, w) :: m) = true ↔
      lo ≤ b ∧ b < 128 ∧ w ≠ Memory.unlisted ∧ Memory.wfFrom (b + 1) m = true := by
  simp [Memory.wfFrom, and_assoc]

theorem Memory.wfFrom_mono {lo lo' : Nat} {m : Memory} (h : Memory.wfFrom lo m = true) (hl : lo' ≤ lo) :
    Memory.wfFrom lo' m = true := by
  cases m with
  | nil => rfl
  | cons e m =>
    obtain ⟨b, w⟩ := e
    rw [Memory.wfFrom_cons] at h ⊢
    exact ⟨hl.trans h.1, h.2⟩

/-- Below the first listed address nothing is listed. -/
theorem Memory.get_below {lo a : Nat} {m : Memory} (h : Memory.wfFrom lo m = true) (ha : a < lo) :
    m.get a = Memory.unlisted := by
  induction m generalizing lo with
  | nil => rfl
  | cons e m ih =>
    obtain ⟨b, w⟩ := e
    rw [Memory.wfFrom_cons] at h
    rw [Memory.get, if_neg (by omega)]
    exact ih h.2.2.2 (by omega)

theorem Memory.get_set_same_from {lo : Nat} {m : Memory} (h : Memory.wfFrom lo m = true) (a : Nat) (v : Byte) :
    (m.set a v).get a = v := by
  induction m generalizing lo with
  | nil => by_cases hv : v = Memory.unlisted <;> simp [Memory.set, Memory.get, hv]
  | cons e m ih =>
    obtain ⟨b, w⟩ := e
    rw [Memory.wfFrom_cons] at h
    unfold Memory.set
    split_ifs with hlt hv heq hv
    · rw [hv, Memory.get, if_neg (by omega)]
      exact Memory.get_below h.2.2.2 (by omega)
    · simp [Memory.get]
    · rw [hv]
      exact Memory.get_below h.2.2.2 (by omega)
    · simp [Memory.get]
    · rw [Memory.get, if_neg heq]
      exact ih h.2.2.2

/-- A read after a write to the same register gives the value written. -/
theorem Memory.get_set_same {m : Memory} (h : m.wf = true) (a : Nat) (v : Byte) : (m.set a v).get a = v :=
  Memory.get_set_same_from h a v

/-- A write leaves every other register alone. -/
theorem Memory.get_set_other (m : Memory) {a b : Nat} (v : Byte) (hne : b ≠ a) : (m.set a v).get b = m.get b := by
  induction m with
  | nil => by_cases hv : v = Memory.unlisted <;> simp [Memory.set, Memory.get, hv, hne]
  | cons e m ih =>
    obtain ⟨c, w⟩ := e
    unfold Memory.set
    split_ifs with hlt hv heq hv
    · rfl
    · simp [Memory.get, hne]
    · subst heq
      simp [Memory.get, hne]
    · subst heq
      simp [Memory.get, hne]
    · rw [Memory.get, Memory.get, ih]

theorem Memory.set_wfFrom {lo a : Nat} {m : Memory} (v : Byte) (h : Memory.wfFrom lo m = true) (hlo : lo ≤ a)
    (ha : a < 128) : Memory.wfFrom lo (m.set a v) = true := by
  induction m generalizing lo with
  | nil => by_cases hv : v = Memory.unlisted <;> simp [Memory.set, Memory.wfFrom, hv, hlo, ha]
  | cons e m ih =>
    obtain ⟨b, w⟩ := e
    have hc := h
    rw [Memory.wfFrom_cons] at hc
    unfold Memory.set
    split_ifs with hlt hv heq hv
    · exact h
    · exact Memory.wfFrom_cons.2 ⟨hlo, ha, hv, Memory.wfFrom_cons.2 ⟨hlt, hc.2⟩⟩
    · exact Memory.wfFrom_mono hc.2.2.2 (by omega)
    · subst heq
      exact Memory.wfFrom_cons.2 ⟨hlo, ha, hv, hc.2.2.2⟩
    · exact Memory.wfFrom_cons.2 ⟨hc.1, hc.2.1, hc.2.2.1, ih hc.2.2.2 (by omega)⟩

/-- A write keeps the canonical form. -/
theorem Memory.set_wf {m : Memory} {a : Nat} (v : Byte) (h : m.wf = true) (ha : a < 128) : (m.set a v).wf = true :=
  Memory.set_wfFrom v h (Nat.zero_le a) ha

/-- The free draw of an exchange that returns (20_memory.md R57, R61). -/
theorem Env.drawn_ok {n : Nat} {t0 t1 r0 r1 : Byte} (h : Env.drawn n t0 t1 = .ok r0 r1) :
    r0 = Config.freeFirst n ∧ r1 = Config.freeSecond n t0 t1 := by
  unfold Env.drawn at h
  split at h
  · cases h
    exact ⟨rfl, rfl⟩
  · cases h
  · cases h

/-- What an environment without a script answers: the stub, or the free draw (20_memory.md R57, R62). -/
theorem Env.answer_stub {e : Env} {st : Stub} (h : e.script = []) (hst : e.stub = some st) (t0 t1 : Byte) :
    e.answer t0 t1 = st.answer e.draws t0 t1 := by
  simp [Env.answer, h, hst]

theorem Env.answer_drawn {e : Env} (h : e.script = []) (hst : e.stub = none) (t0 t1 : Byte) :
    e.answer t0 t1 = Env.drawn e.draws t0 t1 := by
  simp [Env.answer, h, hst]

/-- The stub's registers stay canonical across an exchange (20_memory.md R62). -/
theorem Stub.store_wf (idAddr : Addr) (t0 t1 : Byte) {st : Stub} (h : st.reg.wf = true) :
    (st.store idAddr t0 t1).reg.wf = true := by
  unfold Stub.store
  split_ifs
  · exact Memory.set_wf t1 h (addressOf t0).isLt
  · exact h

theorem Stub.store_reg0 (idAddr : Addr) (t0 t1 : Byte) (st : Stub) : (st.store idAddr t0 t1).reg0 = st.reg0 := by
  unfold Stub.store
  split_ifs <;> rfl

theorem Env.memoryWf_iff {e : Env} :
    e.memoryWf = true ↔ ∀ st, e.stub = some st → st.reg.wf = true ∧ st.reg0.wf = true := by
  unfold Env.memoryWf
  cases e.stub with
  | none => simp
  | some st => simp

/-- An exchange keeps the canonical form. -/
theorem Env.taken_memoryWf (idAddr : Addr) (t0 t1 : Byte) {e : Env} (h : e.memoryWf = true) :
    (e.taken idAddr t0 t1).memoryWf = true := by
  rw [Env.memoryWf_iff] at h ⊢
  intro st hst
  unfold Env.taken at hst
  split at hst
  · exact h st hst
  · obtain ⟨st', h', rfl⟩ := Option.map_eq_some_iff.1 hst
    exact ⟨Stub.store_wf idAddr t0 t1 (h st' h').1, by rw [Stub.store_reg0]; exact (h st' h').2⟩

/-- Driving a line keeps the canonical form. -/
theorem Env.onLine_memoryWf (id : LineId) (l : Level) {e : Env} (h : e.memoryWf = true) :
    (e.onLine id l).memoryWf = true := by
  unfold Env.onLine
  split
  · rw [Env.memoryWf_iff] at h ⊢
    intro st hst
    obtain ⟨st', h', rfl⟩ := Option.map_eq_some_iff.1 hst
    exact ⟨(h st' h').2, (h st' h').2⟩
  · exact h

/-- Ending a hang keeps the canonical form. -/
theorem Env.abandoned_memoryWf {e : Env} (h : e.memoryWf = true) : e.abandoned.memoryWf = true := h

/-- The reset state's memory is canonical. -/
theorem reset_memoryWf (p : Params) : (State.resetWith p).env.memoryWf = true := rfl

end Sys2Proof.Machine
end

