-- ==== Sys2Proof/Laws/State.lean ====
section
/-! SUPPORT. One lemma per field of the state per named update, true by `rfl`, so that no later
proof unfolds a record update. -/

namespace Sys2Proof.Machine

variable (s : State)

/-! Recording an event changes the trace alone (00_scope.md R10). -/

@[simp] theorem record_seq (e : Event) : (record e s).seq = s.seq := rfl
@[simp] theorem record_txn (e : Event) : (record e s).txn = s.txn := rfl
@[simp] theorem record_cur (e : Event) : (record e s).cur = s.cur := rfl
@[simp] theorem record_cs (e : Event) : (record e s).cs = s.cs := rfl
@[simp] theorem record_rst (e : Event) : (record e s).rst = s.rst := rfl
@[simp] theorem record_tx0 (e : Event) : (record e s).tx0 = s.tx0 := rfl
@[simp] theorem record_tx1 (e : Event) : (record e s).tx1 = s.tx1 := rfl
@[simp] theorem record_rx0 (e : Event) : (record e s).rx0 = s.rx0 := rfl
@[simp] theorem record_rx1 (e : Event) : (record e s).rx1 = s.rx1 := rfl
@[simp] theorem record_idSeen (e : Event) : (record e s).idSeen = s.idSeen := rfl
@[simp] theorem record_cause (e : Event) : (record e s).cause = s.cause := rfl
@[simp] theorem record_result (e : Event) : (record e s).result = s.result := rfl
@[simp] theorem record_params (e : Event) : (record e s).params = s.params := rfl
@[simp] theorem record_host (e : Event) : (record e s).host = s.host := rfl
@[simp] theorem record_env (e : Event) : (record e s).env = s.env := rfl
@[simp] theorem record_trace (e : Event) : (record e s).trace = s.trace ++ [e] := rfl
@[simp] theorem record_history (e : Event) : (record e s).history = s.history := rfl

/-! Driving chip-select (20_memory.md R58): the lines are independent, the environment ignores the level. -/

@[simp] theorem setLine_cs_seq (l : Level) : (setLine .cs l s).seq = s.seq := rfl
@[simp] theorem setLine_cs_txn (l : Level) : (setLine .cs l s).txn = s.txn := rfl
@[simp] theorem setLine_cs_cur (l : Level) : (setLine .cs l s).cur = s.cur := rfl
@[simp] theorem setLine_cs_cs (l : Level) : (setLine .cs l s).cs = l := rfl
@[simp] theorem setLine_cs_rst (l : Level) : (setLine .cs l s).rst = s.rst := rfl
@[simp] theorem setLine_cs_tx0 (l : Level) : (setLine .cs l s).tx0 = s.tx0 := rfl
@[simp] theorem setLine_cs_tx1 (l : Level) : (setLine .cs l s).tx1 = s.tx1 := rfl
@[simp] theorem setLine_cs_rx0 (l : Level) : (setLine .cs l s).rx0 = s.rx0 := rfl
@[simp] theorem setLine_cs_rx1 (l : Level) : (setLine .cs l s).rx1 = s.rx1 := rfl
@[simp] theorem setLine_cs_idSeen (l : Level) : (setLine .cs l s).idSeen = s.idSeen := rfl
@[simp] theorem setLine_cs_cause (l : Level) : (setLine .cs l s).cause = s.cause := rfl
@[simp] theorem setLine_cs_result (l : Level) : (setLine .cs l s).result = s.result := rfl
@[simp] theorem setLine_cs_params (l : Level) : (setLine .cs l s).params = s.params := rfl
@[simp] theorem setLine_cs_host (l : Level) : (setLine .cs l s).host = s.host := rfl
@[simp] theorem setLine_cs_env (l : Level) : (setLine .cs l s).env = s.env := rfl
@[simp] theorem setLine_cs_trace (l : Level) : (setLine .cs l s).trace = s.trace ++ [.line .cs l] := rfl
@[simp] theorem setLine_cs_history (l : Level) : (setLine .cs l s).history = s.history := rfl

/-! Driving the reset line (20_memory.md R58, R62). -/

@[simp] theorem setLine_rst_seq (l : Level) : (setLine .rst l s).seq = s.seq := rfl
@[simp] theorem setLine_rst_txn (l : Level) : (setLine .rst l s).txn = s.txn := rfl
@[simp] theorem setLine_rst_cur (l : Level) : (setLine .rst l s).cur = s.cur := rfl
@[simp] theorem setLine_rst_cs (l : Level) : (setLine .rst l s).cs = s.cs := rfl
@[simp] theorem setLine_rst_rst (l : Level) : (setLine .rst l s).rst = some l := rfl
@[simp] theorem setLine_rst_tx0 (l : Level) : (setLine .rst l s).tx0 = s.tx0 := rfl
@[simp] theorem setLine_rst_tx1 (l : Level) : (setLine .rst l s).tx1 = s.tx1 := rfl
@[simp] theorem setLine_rst_rx0 (l : Level) : (setLine .rst l s).rx0 = s.rx0 := rfl
@[simp] theorem setLine_rst_rx1 (l : Level) : (setLine .rst l s).rx1 = s.rx1 := rfl
@[simp] theorem setLine_rst_idSeen (l : Level) : (setLine .rst l s).idSeen = s.idSeen := rfl
@[simp] theorem setLine_rst_cause (l : Level) : (setLine .rst l s).cause = s.cause := rfl
@[simp] theorem setLine_rst_result (l : Level) : (setLine .rst l s).result = s.result := rfl
@[simp] theorem setLine_rst_params (l : Level) : (setLine .rst l s).params = s.params := rfl
@[simp] theorem setLine_rst_host (l : Level) : (setLine .rst l s).host = s.host := rfl
@[simp] theorem setLine_rst_env (l : Level) : (setLine .rst l s).env = s.env.onLine .rst l := rfl
@[simp] theorem setLine_rst_trace (l : Level) : (setLine .rst l s).trace = s.trace ++ [.line .rst l] := rfl
@[simp] theorem setLine_rst_history (l : Level) : (setLine .rst l s).history = s.history := rfl

/-! A delay changes nothing (20_memory.md R60). -/

@[simp] theorem delay_seq (n : Nat) : (delay n s).seq = s.seq := rfl
@[simp] theorem delay_txn (n : Nat) : (delay n s).txn = s.txn := rfl
@[simp] theorem delay_cur (n : Nat) : (delay n s).cur = s.cur := rfl
@[simp] theorem delay_cs (n : Nat) : (delay n s).cs = s.cs := rfl
@[simp] theorem delay_rst (n : Nat) : (delay n s).rst = s.rst := rfl
@[simp] theorem delay_tx0 (n : Nat) : (delay n s).tx0 = s.tx0 := rfl
@[simp] theorem delay_tx1 (n : Nat) : (delay n s).tx1 = s.tx1 := rfl
@[simp] theorem delay_rx0 (n : Nat) : (delay n s).rx0 = s.rx0 := rfl
@[simp] theorem delay_rx1 (n : Nat) : (delay n s).rx1 = s.rx1 := rfl
@[simp] theorem delay_idSeen (n : Nat) : (delay n s).idSeen = s.idSeen := rfl
@[simp] theorem delay_cause (n : Nat) : (delay n s).cause = s.cause := rfl
@[simp] theorem delay_result (n : Nat) : (delay n s).result = s.result := rfl
@[simp] theorem delay_params (n : Nat) : (delay n s).params = s.params := rfl
@[simp] theorem delay_host (n : Nat) : (delay n s).host = s.host := rfl
@[simp] theorem delay_env (n : Nat) : (delay n s).env = s.env := rfl
@[simp] theorem delay_trace (n : Nat) : (delay n s).trace = s.trace ++ [.wait n] := rfl
@[simp] theorem delay_history (n : Nat) : (delay n s).history = s.history := rfl

/-! A response clears `CUR` (30_encoding.md R91). -/

@[simp] theorem respond_seq (st : Status) (d : Option Byte) : (respond st d s).seq = s.seq := rfl
@[simp] theorem respond_txn (st : Status) (d : Option Byte) : (respond st d s).txn = s.txn := rfl
@[simp] theorem respond_cur (st : Status) (d : Option Byte) : (respond st d s).cur = none := rfl
@[simp] theorem respond_cs (st : Status) (d : Option Byte) : (respond st d s).cs = s.cs := rfl
@[simp] theorem respond_rst (st : Status) (d : Option Byte) : (respond st d s).rst = s.rst := rfl
@[simp] theorem respond_tx0 (st : Status) (d : Option Byte) : (respond st d s).tx0 = s.tx0 := rfl
@[simp] theorem respond_tx1 (st : Status) (d : Option Byte) : (respond st d s).tx1 = s.tx1 := rfl
@[simp] theorem respond_rx0 (st : Status) (d : Option Byte) : (respond st d s).rx0 = s.rx0 := rfl
@[simp] theorem respond_rx1 (st : Status) (d : Option Byte) : (respond st d s).rx1 = s.rx1 := rfl
@[simp] theorem respond_idSeen (st : Status) (d : Option Byte) : (respond st d s).idSeen = s.idSeen := rfl
@[simp] theorem respond_cause (st : Status) (d : Option Byte) : (respond st d s).cause = s.cause := rfl
@[simp] theorem respond_result (st : Status) (d : Option Byte) : (respond st d s).result = s.result := rfl
@[simp] theorem respond_params (st : Status) (d : Option Byte) : (respond st d s).params = s.params := rfl
@[simp] theorem respond_host (st : Status) (d : Option Byte) : (respond st d s).host = s.host := rfl
@[simp] theorem respond_env (st : Status) (d : Option Byte) : (respond st d s).env = s.env := rfl
@[simp] theorem respond_trace (st : Status) (d : Option Byte) : (respond st d s).trace = s.trace ++ [.resp st d] := rfl
@[simp] theorem respond_history (st : Status) (d : Option Byte) : (respond st d s).history = s.history := rfl

/-! The beginning of a transaction (40_register_access.md R100). -/

@[simp] theorem openWindow_seq (t0 t1 : Byte) : (openWindow t0 t1 s).seq = s.seq := rfl
@[simp] theorem openWindow_txn (t0 t1 : Byte) : (openWindow t0 t1 s).txn = .selected := rfl
@[simp] theorem openWindow_cur (t0 t1 : Byte) : (openWindow t0 t1 s).cur = s.cur := rfl
@[simp] theorem openWindow_cs (t0 t1 : Byte) : (openWindow t0 t1 s).cs = csAsserted s.params := rfl
@[simp] theorem openWindow_rst (t0 t1 : Byte) : (openWindow t0 t1 s).rst = s.rst := rfl
@[simp] theorem openWindow_tx0 (t0 t1 : Byte) : (openWindow t0 t1 s).tx0 = some t0 := rfl
@[simp] theorem openWindow_tx1 (t0 t1 : Byte) : (openWindow t0 t1 s).tx1 = some t1 := rfl
@[simp] theorem openWindow_rx0 (t0 t1 : Byte) : (openWindow t0 t1 s).rx0 = s.rx0 := rfl
@[simp] theorem openWindow_rx1 (t0 t1 : Byte) : (openWindow t0 t1 s).rx1 = s.rx1 := rfl
@[simp] theorem openWindow_idSeen (t0 t1 : Byte) : (openWindow t0 t1 s).idSeen = s.idSeen := rfl
@[simp] theorem openWindow_cause (t0 t1 : Byte) : (openWindow t0 t1 s).cause = s.cause := rfl
@[simp] theorem openWindow_result (t0 t1 : Byte) : (openWindow t0 t1 s).result = none := rfl
@[simp] theorem openWindow_params (t0 t1 : Byte) : (openWindow t0 t1 s).params = s.params := rfl
@[simp] theorem openWindow_host (t0 t1 : Byte) : (openWindow t0 t1 s).host = s.host := rfl
@[simp] theorem openWindow_env (t0 t1 : Byte) : (openWindow t0 t1 s).env = s.env := rfl
@[simp] theorem openWindow_trace (t0 t1 : Byte) : (openWindow t0 t1 s).trace = s.trace ++ [.line .cs (csAsserted s.params)] := rfl
@[simp] theorem openWindow_history (t0 t1 : Byte) : (openWindow t0 t1 s).history = s.history := rfl

/-! The end of a transaction (40_register_access.md R100). -/

@[simp] theorem closeWindow_seq : (closeWindow s).seq = s.seq := rfl
@[simp] theorem closeWindow_txn : (closeWindow s).txn = .none := rfl
@[simp] theorem closeWindow_cur : (closeWindow s).cur = s.cur := rfl
@[simp] theorem closeWindow_cs : (closeWindow s).cs = csDeasserted s.params := rfl
@[simp] theorem closeWindow_rst : (closeWindow s).rst = s.rst := rfl
@[simp] theorem closeWindow_tx0 : (closeWindow s).tx0 = s.tx0 := rfl
@[simp] theorem closeWindow_tx1 : (closeWindow s).tx1 = s.tx1 := rfl
@[simp] theorem closeWindow_rx0 : (closeWindow s).rx0 = s.rx0 := rfl
@[simp] theorem closeWindow_rx1 : (closeWindow s).rx1 = s.rx1 := rfl
@[simp] theorem closeWindow_idSeen : (closeWindow s).idSeen = s.idSeen := rfl
@[simp] theorem closeWindow_cause : (closeWindow s).cause = s.cause := rfl
@[simp] theorem closeWindow_result : (closeWindow s).result = s.result := rfl
@[simp] theorem closeWindow_params : (closeWindow s).params = s.params := rfl
@[simp] theorem closeWindow_host : (closeWindow s).host = s.host := rfl
@[simp] theorem closeWindow_env : (closeWindow s).env = s.env := rfl
@[simp] theorem closeWindow_trace : (closeWindow s).trace = s.trace ++ [.line .cs (csDeasserted s.params)] := rfl
@[simp] theorem closeWindow_history : (closeWindow s).history = s.history := rfl

/-! An exchange that returns bytes (20_memory.md R56). -/

@[simp] theorem exchangeWith_ok_seq (r0 r1 t0 t1 : Byte) : (exchangeWith (.ok r0 r1) t0 t1 s).seq = s.seq := rfl
@[simp] theorem exchangeWith_ok_txn (r0 r1 t0 t1 : Byte) : (exchangeWith (.ok r0 r1) t0 t1 s).txn = .exchanged := rfl
@[simp] theorem exchangeWith_ok_cur (r0 r1 t0 t1 : Byte) : (exchangeWith (.ok r0 r1) t0 t1 s).cur = s.cur := rfl
@[simp] theorem exchangeWith_ok_cs (r0 r1 t0 t1 : Byte) : (exchangeWith (.ok r0 r1) t0 t1 s).cs = s.cs := rfl
@[simp] theorem exchangeWith_ok_rst (r0 r1 t0 t1 : Byte) : (exchangeWith (.ok r0 r1) t0 t1 s).rst = s.rst := rfl
@[simp] theorem exchangeWith_ok_tx0 (r0 r1 t0 t1 : Byte) : (exchangeWith (.ok r0 r1) t0 t1 s).tx0 = s.tx0 := rfl
@[simp] theorem exchangeWith_ok_tx1 (r0 r1 t0 t1 : Byte) : (exchangeWith (.ok r0 r1) t0 t1 s).tx1 = s.tx1 := rfl
@[simp] theorem exchangeWith_ok_rx0 (r0 r1 t0 t1 : Byte) : (exchangeWith (.ok r0 r1) t0 t1 s).rx0 = some r0 := rfl
@[simp] theorem exchangeWith_ok_rx1 (r0 r1 t0 t1 : Byte) : (exchangeWith (.ok r0 r1) t0 t1 s).rx1 = some r1 := rfl
@[simp] theorem exchangeWith_ok_idSeen (r0 r1 t0 t1 : Byte) : (exchangeWith (.ok r0 r1) t0 t1 s).idSeen = s.idSeen := rfl
@[simp] theorem exchangeWith_ok_cause (r0 r1 t0 t1 : Byte) : (exchangeWith (.ok r0 r1) t0 t1 s).cause = s.cause := rfl
@[simp] theorem exchangeWith_ok_result (r0 r1 t0 t1 : Byte) : (exchangeWith (.ok r0 r1) t0 t1 s).result = some (.ok r0 r1) := rfl
@[simp] theorem exchangeWith_ok_params (r0 r1 t0 t1 : Byte) : (exchangeWith (.ok r0 r1) t0 t1 s).params = s.params := rfl
@[simp] theorem exchangeWith_ok_host (r0 r1 t0 t1 : Byte) : (exchangeWith (.ok r0 r1) t0 t1 s).host = s.host := rfl
@[simp] theorem exchangeWith_ok_env (r0 r1 t0 t1 : Byte) : (exchangeWith (.ok r0 r1) t0 t1 s).env = s.env.taken s.params.idAddr t0 t1 := rfl
@[simp] theorem exchangeWith_ok_trace (r0 r1 t0 t1 : Byte) : (exchangeWith (.ok r0 r1) t0 t1 s).trace = s.trace ++ [.xchg t0 t1 r0 r1] := rfl
@[simp] theorem exchangeWith_ok_history (r0 r1 t0 t1 : Byte) : (exchangeWith (.ok r0 r1) t0 t1 s).history = s.history := rfl

/-! An exchange that fails (20_memory.md R56; 10_state.md R28). -/

@[simp] theorem exchangeWith_fail_seq (t0 t1 : Byte) : (exchangeWith .fail t0 t1 s).seq = s.seq := rfl
@[simp] theorem exchangeWith_fail_txn (t0 t1 : Byte) : (exchangeWith .fail t0 t1 s).txn = .exchanged := rfl
@[simp] theorem exchangeWith_fail_cur (t0 t1 : Byte) : (exchangeWith .fail t0 t1 s).cur = s.cur := rfl
@[simp] theorem exchangeWith_fail_cs (t0 t1 : Byte) : (exchangeWith .fail t0 t1 s).cs = s.cs := rfl
@[simp] theorem exchangeWith_fail_rst (t0 t1 : Byte) : (exchangeWith .fail t0 t1 s).rst = s.rst := rfl
@[simp] theorem exchangeWith_fail_tx0 (t0 t1 : Byte) : (exchangeWith .fail t0 t1 s).tx0 = s.tx0 := rfl
@[simp] theorem exchangeWith_fail_tx1 (t0 t1 : Byte) : (exchangeWith .fail t0 t1 s).tx1 = s.tx1 := rfl
@[simp] theorem exchangeWith_fail_rx0 (t0 t1 : Byte) : (exchangeWith .fail t0 t1 s).rx0 = none := rfl
@[simp] theorem exchangeWith_fail_rx1 (t0 t1 : Byte) : (exchangeWith .fail t0 t1 s).rx1 = none := rfl
@[simp] theorem exchangeWith_fail_idSeen (t0 t1 : Byte) : (exchangeWith .fail t0 t1 s).idSeen = s.idSeen := rfl
@[simp] theorem exchangeWith_fail_cause (t0 t1 : Byte) : (exchangeWith .fail t0 t1 s).cause = s.cause := rfl
@[simp] theorem exchangeWith_fail_result (t0 t1 : Byte) : (exchangeWith .fail t0 t1 s).result = some .fail := rfl
@[simp] theorem exchangeWith_fail_params (t0 t1 : Byte) : (exchangeWith .fail t0 t1 s).params = s.params := rfl
@[simp] theorem exchangeWith_fail_host (t0 t1 : Byte) : (exchangeWith .fail t0 t1 s).host = s.host := rfl
@[simp] theorem exchangeWith_fail_env (t0 t1 : Byte) : (exchangeWith .fail t0 t1 s).env = s.env.taken s.params.idAddr t0 t1 := rfl
@[simp] theorem exchangeWith_fail_trace (t0 t1 : Byte) : (exchangeWith .fail t0 t1 s).trace = s.trace ++ [.xchgFail t0 t1] := rfl
@[simp] theorem exchangeWith_fail_history (t0 t1 : Byte) : (exchangeWith .fail t0 t1 s).history = s.history := rfl

/-! The entry to the failed state (60_exceptions.md R160). -/

@[simp] theorem enterFatal_seq (st : Status) (d : Option Byte) : (enterFatal st d s).seq = .fatal := rfl
@[simp] theorem enterFatal_txn (st : Status) (d : Option Byte) : (enterFatal st d s).txn = s.txn := rfl
@[simp] theorem enterFatal_cur (st : Status) (d : Option Byte) : (enterFatal st d s).cur = none := rfl
@[simp] theorem enterFatal_cs (st : Status) (d : Option Byte) : (enterFatal st d s).cs = s.cs := rfl
@[simp] theorem enterFatal_rst (st : Status) (d : Option Byte) : (enterFatal st d s).rst = s.rst := rfl
@[simp] theorem enterFatal_tx0 (st : Status) (d : Option Byte) : (enterFatal st d s).tx0 = s.tx0 := rfl
@[simp] theorem enterFatal_tx1 (st : Status) (d : Option Byte) : (enterFatal st d s).tx1 = s.tx1 := rfl
@[simp] theorem enterFatal_rx0 (st : Status) (d : Option Byte) : (enterFatal st d s).rx0 = s.rx0 := rfl
@[simp] theorem enterFatal_rx1 (st : Status) (d : Option Byte) : (enterFatal st d s).rx1 = s.rx1 := rfl
@[simp] theorem enterFatal_idSeen (st : Status) (d : Option Byte) : (enterFatal st d s).idSeen = s.idSeen := rfl
@[simp] theorem enterFatal_cause (st : Status) (d : Option Byte) : (enterFatal st d s).cause = statusCode st := rfl
@[simp] theorem enterFatal_result (st : Status) (d : Option Byte) : (enterFatal st d s).result = s.result := rfl
@[simp] theorem enterFatal_params (st : Status) (d : Option Byte) : (enterFatal st d s).params = s.params := rfl
@[simp] theorem enterFatal_host (st : Status) (d : Option Byte) : (enterFatal st d s).host = s.host := rfl
@[simp] theorem enterFatal_env (st : Status) (d : Option Byte) : (enterFatal st d s).env = s.env := rfl
@[simp] theorem enterFatal_trace (st : Status) (d : Option Byte) : (enterFatal st d s).trace = s.trace ++ [.resp st d] := rfl
@[simp] theorem enterFatal_history (st : Status) (d : Option Byte) : (enterFatal st d s).history = s.history := rfl

/-! A reset of the CORE (10_state.md R42; 70_reset_and_hazards.md R180, R182). -/

@[simp] theorem coreReset_seq : (coreReset s).seq = .idle := rfl
@[simp] theorem coreReset_txn : (coreReset s).txn = .none := rfl
@[simp] theorem coreReset_cur : (coreReset s).cur = none := rfl
@[simp] theorem coreReset_cs : (coreReset s).cs = csDeasserted s.params := rfl
@[simp] theorem coreReset_rst : (coreReset s).rst = none := rfl
@[simp] theorem coreReset_tx0 : (coreReset s).tx0 = none := rfl
@[simp] theorem coreReset_tx1 : (coreReset s).tx1 = none := rfl
@[simp] theorem coreReset_rx0 : (coreReset s).rx0 = none := rfl
@[simp] theorem coreReset_rx1 : (coreReset s).rx1 = none := rfl
@[simp] theorem coreReset_idSeen : (coreReset s).idSeen = none := rfl
@[simp] theorem coreReset_cause : (coreReset s).cause = 0 := rfl
@[simp] theorem coreReset_result : (coreReset s).result = none := rfl
@[simp] theorem coreReset_params : (coreReset s).params = s.params := rfl
@[simp] theorem coreReset_host : (coreReset s).host = s.host := rfl
@[simp] theorem coreReset_env : (coreReset s).env = s.env := rfl
@[simp] theorem coreReset_trace : (coreReset s).trace = [] := rfl
@[simp] theorem coreReset_history : (coreReset s).history = s.history ++ s.trace := rfl

/-! Steps S1 to S3 of `BRINGUP` (41_sequencer.md R121 to R123). -/

@[simp] theorem resetPulse_seq : (resetPulse s).seq = .verify := rfl
@[simp] theorem resetPulse_txn : (resetPulse s).txn = s.txn := rfl
@[simp] theorem resetPulse_cur : (resetPulse s).cur = s.cur := rfl
@[simp] theorem resetPulse_cs : (resetPulse s).cs = s.cs := rfl
@[simp] theorem resetPulse_rst : (resetPulse s).rst = some .high := rfl
@[simp] theorem resetPulse_tx0 : (resetPulse s).tx0 = s.tx0 := rfl
@[simp] theorem resetPulse_tx1 : (resetPulse s).tx1 = s.tx1 := rfl
@[simp] theorem resetPulse_rx0 : (resetPulse s).rx0 = s.rx0 := rfl
@[simp] theorem resetPulse_rx1 : (resetPulse s).rx1 = s.rx1 := rfl
@[simp] theorem resetPulse_idSeen : (resetPulse s).idSeen = s.idSeen := rfl
@[simp] theorem resetPulse_cause : (resetPulse s).cause = s.cause := rfl
@[simp] theorem resetPulse_result : (resetPulse s).result = s.result := rfl
@[simp] theorem resetPulse_params : (resetPulse s).params = s.params := rfl
@[simp] theorem resetPulse_host : (resetPulse s).host = s.host := rfl
@[simp] theorem resetPulse_env : (resetPulse s).env = s.env.onLine .rst .low := rfl
@[simp] theorem resetPulse_trace : (resetPulse s).trace = s.trace ++ [.line .rst .high] ++ [.wait s.params.tHigh] ++ [.line .rst .low] ++ [.wait s.params.tLow] ++ [.line .rst .high] ++ [.wait s.params.tSettle] := rfl
@[simp] theorem resetPulse_history : (resetPulse s).history = s.history := rfl

/-! Taking the result of `Txn` (40_register_access.md R100). -/

@[simp] theorem takeResult_seq : (takeResult s).seq = s.seq := rfl
@[simp] theorem takeResult_txn : (takeResult s).txn = s.txn := rfl
@[simp] theorem takeResult_cur : (takeResult s).cur = s.cur := rfl
@[simp] theorem takeResult_cs : (takeResult s).cs = s.cs := rfl
@[simp] theorem takeResult_rst : (takeResult s).rst = s.rst := rfl
@[simp] theorem takeResult_tx0 : (takeResult s).tx0 = s.tx0 := rfl
@[simp] theorem takeResult_tx1 : (takeResult s).tx1 = s.tx1 := rfl
@[simp] theorem takeResult_rx0 : (takeResult s).rx0 = s.rx0 := rfl
@[simp] theorem takeResult_rx1 : (takeResult s).rx1 = s.rx1 := rfl
@[simp] theorem takeResult_idSeen : (takeResult s).idSeen = s.idSeen := rfl
@[simp] theorem takeResult_cause : (takeResult s).cause = s.cause := rfl
@[simp] theorem takeResult_result : (takeResult s).result = none := rfl
@[simp] theorem takeResult_params : (takeResult s).params = s.params := rfl
@[simp] theorem takeResult_host : (takeResult s).host = s.host := rfl
@[simp] theorem takeResult_env : (takeResult s).env = s.env := rfl
@[simp] theorem takeResult_trace : (takeResult s).trace = s.trace := rfl
@[simp] theorem takeResult_history : (takeResult s).history = s.history := rfl

/-! Latching the frame before the exchange reads it (10_state.md R29). -/

@[simp] theorem latchFrame_seq (t0 t1 : Byte) : (latchFrame t0 t1 s).seq = s.seq := rfl
@[simp] theorem latchFrame_txn (t0 t1 : Byte) : (latchFrame t0 t1 s).txn = s.txn := rfl
@[simp] theorem latchFrame_cur (t0 t1 : Byte) : (latchFrame t0 t1 s).cur = s.cur := rfl
@[simp] theorem latchFrame_cs (t0 t1 : Byte) : (latchFrame t0 t1 s).cs = s.cs := rfl
@[simp] theorem latchFrame_rst (t0 t1 : Byte) : (latchFrame t0 t1 s).rst = s.rst := rfl
@[simp] theorem latchFrame_tx0 (t0 t1 : Byte) : (latchFrame t0 t1 s).tx0 = some (s.tx0.getD t0) := rfl
@[simp] theorem latchFrame_tx1 (t0 t1 : Byte) : (latchFrame t0 t1 s).tx1 = some (s.tx1.getD t1) := rfl
@[simp] theorem latchFrame_rx0 (t0 t1 : Byte) : (latchFrame t0 t1 s).rx0 = s.rx0 := rfl
@[simp] theorem latchFrame_rx1 (t0 t1 : Byte) : (latchFrame t0 t1 s).rx1 = s.rx1 := rfl
@[simp] theorem latchFrame_idSeen (t0 t1 : Byte) : (latchFrame t0 t1 s).idSeen = s.idSeen := rfl
@[simp] theorem latchFrame_cause (t0 t1 : Byte) : (latchFrame t0 t1 s).cause = s.cause := rfl
@[simp] theorem latchFrame_result (t0 t1 : Byte) : (latchFrame t0 t1 s).result = s.result := rfl
@[simp] theorem latchFrame_params (t0 t1 : Byte) : (latchFrame t0 t1 s).params = s.params := rfl
@[simp] theorem latchFrame_host (t0 t1 : Byte) : (latchFrame t0 t1 s).host = s.host := rfl
@[simp] theorem latchFrame_env (t0 t1 : Byte) : (latchFrame t0 t1 s).env = s.env := rfl
@[simp] theorem latchFrame_trace (t0 t1 : Byte) : (latchFrame t0 t1 s).trace = s.trace := rfl
@[simp] theorem latchFrame_history (t0 t1 : Byte) : (latchFrame t0 t1 s).history = s.history := rfl

end Sys2Proof.Machine
end

