-- ==== Sys2Proof/Laws/Ops.lean ====
section
/-! SUPPORT. One lemma per shared operation that says everything it can do, for proofs to cite
instead of unfolding it. -/

namespace Sys2Proof.Machine

/-- A guarded meaning runs exactly under a legal configuration (00_scope.md R9). -/
theorem guarded_next {s t : State} {k : State → Result} (h : guarded s k = .next t) :
    paramsLegal s.params = true ∧ k s = .next t := by
  unfold guarded at h
  split at h
  · exact ⟨‹_›, h⟩
  · cases h

theorem guarded_eq {s : State} (h : paramsLegal s.params = true) (k : State → Result) : guarded s k = k s := by
  rw [guarded, if_pos h]

/-- A busy CORE is left as it was; a free one runs the command (10_state.md R24). -/
theorem accepting_next {c : Option Command} {s t : State} {k : State → Result} (h : accepting c s k = .next t) :
    (s.cur ≠ none ∧ t = s) ∨ (s.cur = none ∧ k { s with cur := c } = .next t) := by
  have h' := (guarded_next h).2
  cases hc : s.cur with
  | none => exact .inr ⟨rfl, by simpa [busy, hc] using h'⟩
  | some d => exact .inl ⟨by simp, by simpa [busy, hc, eq_comm] using h'⟩

/-- A free CORE accepts (10_state.md R24). -/
theorem accepting_eq {s : State} (h : Accepts s) (c : Option Command) (k : State → Result) :
    accepting c s k = k { s with cur := c } := by
  simp [accepting, guarded_eq h.legal, busy, h.free]

/-- A transaction begins with no window open and ends in its caller's continuation
(40_register_access.md R100). -/
theorem transaction_next {t0 t1 : Byte} {k : Answer → State → State} {s t : State}
    (h : transaction t0 t1 k s = .next t) :
    s.txn = .none ∧ t = k (s.env.answer t0 t1) (txnWith (s.env.answer t0 t1) t0 t1 s) := by
  unfold transaction at h
  split at h
  · exact ⟨‹_›, by cases h; rfl⟩
  · cases h

theorem transaction_eq {s : State} {r : Answer} {t0 t1 : Byte} (h : s.txn = .none) (hr : s.env.answer t0 t1 = r)
    (k : Answer → State → State) : transaction t0 t1 k s = .next (k r (txnWith r t0 t1 s)) := by
  rw [transaction, if_pos h, hr]

/-- What continues after an outcome is a next state exactly where the outcome was one. -/
theorem andThen_next {o : Result} {k : State → State} {t : State} (h : andThen o k = .next t) :
    ∃ u, o = .next u ∧ t = k u := by
  cases o with
  | next u => exact ⟨u, rfl, by cases h; rfl⟩
  | fault f => cases h
  | refused r => cases h

/-- A core-reset event is taken by a free CORE or ends a hang (70_reset_and_hazards.md R183). -/
theorem takeReset_next {s t : State} (h : takeReset s = .next t) :
    (s.cur = none ∧ t = coreReset s) ∨ (hung s = true ∧ t = coreReset { s with env := s.env.abandoned }) := by
  unfold takeReset at h
  split at h
  · split at h
    · exact .inr ⟨‹_›, by cases h; rfl⟩
    · cases h
  · rename_i hb
    exact .inl ⟨by simpa [busy] using hb, by cases h; rfl⟩

/-- A transaction that is answered, as one record update (40_register_access.md R100). -/
theorem txnWith_ok (r0 r1 t0 t1 : Byte) (s : State) :
    txnWith (.ok r0 r1) t0 t1 s =
      { s with
        txn := .none, cs := csDeasserted s.params, tx0 := some t0, tx1 := some t1
        rx0 := some r0, rx1 := some r1, result := some (.ok r0 r1), env := s.env.taken s.params.idAddr t0 t1
        trace := s.trace ++ [.line .cs (csAsserted s.params)] ++ [.xchg t0 t1 r0 r1] ++
          [.line .cs (csDeasserted s.params)] } := rfl

/-- A transaction that fails: the window is closed all the same (40_register_access.md R107). -/
theorem txnWith_fail (t0 t1 : Byte) (s : State) :
    txnWith .fail t0 t1 s =
      { s with
        txn := .none, cs := csDeasserted s.params, tx0 := some t0, tx1 := some t1
        rx0 := none, rx1 := none, result := some .fail, env := s.env.taken s.params.idAddr t0 t1
        trace := s.trace ++ [.line .cs (csAsserted s.params)] ++ [.xchgFail t0 t1] ++
          [.line .cs (csDeasserted s.params)] } := rfl

/-- A transaction that hangs: the window stays open (60_exceptions.md R154). -/
theorem txnWith_never (t0 t1 : Byte) (s : State) :
    txnWith .never t0 t1 s =
      { s with
        txn := .selected, cs := csAsserted s.params, tx0 := some t0, tx1 := some t1, result := none
        trace := s.trace ++ [.line .cs (csAsserted s.params)] } := rfl

/-- The three ways `READ` ends (40_register_access.md R104). -/
theorem finishRead_cases (r : Answer) (s : State) :
    (∃ r0 r1, r = .ok r0 r1 ∧ finishRead r s = respond .ok s.rx1 (takeResult s)) ∨
      (r = .fail ∧ finishRead r s = respond .transportFailure none (takeResult s)) ∨ (r = .never ∧ finishRead r s = s) := by
  cases r with
  | ok r0 r1 => exact .inl ⟨r0, r1, rfl, rfl⟩
  | fail => exact .inr (.inl ⟨rfl, rfl⟩)
  | never => exact .inr (.inr ⟨rfl, rfl⟩)

/-- The three ways `WRITE` ends (40_register_access.md R108). -/
theorem finishWrite_cases (r : Answer) (s : State) :
    (∃ r0 r1, r = .ok r0 r1 ∧ finishWrite r s = respond .ok none (takeResult s)) ∨
      (r = .fail ∧ finishWrite r s = respond .transportFailure none (takeResult s)) ∨ (r = .never ∧ finishWrite r s = s) := by
  cases r with
  | ok r0 r1 => exact .inl ⟨r0, r1, rfl, rfl⟩
  | fail => exact .inr (.inl ⟨rfl, rfl⟩)
  | never => exact .inr (.inr ⟨rfl, rfl⟩)

/-- The three ways `BRINGUP` ends (41_sequencer.md R125 to R127). -/
theorem finishBringup_cases (r : Answer) (s : State) :
    (∃ r0 r1, r = .ok r0 r1 ∧ finishBringup r s = judge (takeResult s)) ∨
      (r = .fail ∧ finishBringup r s = enterFatal .transportFailure none (takeResult s)) ∨
      (r = .never ∧ finishBringup r s = s) := by
  cases r with
  | ok r0 r1 => exact .inl ⟨r0, r1, rfl, rfl⟩
  | fail => exact .inr (.inl ⟨rfl, rfl⟩)
  | never => exact .inr (.inr ⟨rfl, rfl⟩)

/-- The verdict of step S5 (41_sequencer.md R125, R126). -/
theorem judge_cases (s : State) :
    (s.rx1 = some s.params.idExpected ∧
        judge s = respond .ok s.rx1 { s with idSeen := s.rx1, seq := .ready }) ∨
      (s.rx1 ≠ some s.params.idExpected ∧
        judge s = enterFatal .identityMismatch s.rx1 { s with idSeen := s.rx1 }) := by
  unfold judge
  split
  · exact .inl ⟨‹_›, rfl⟩
  · exact .inr ⟨‹_›, rfl⟩

/-- What `READ` can do: nothing while the CORE is busy, a refusal at a shut gate, or one
transaction (40_register_access.md R104; 41_sequencer.md R135). -/
theorem execRead_next {a : Addr} {s t : State} (h : execRead a s = .next t) :
    (s.cur ≠ none ∧ t = s) ∨
      (s.cur = none ∧ s.seq ≠ .ready ∧ t = respond .gateClosed none { s with cur := some (.read a) }) ∨
      (s.cur = none ∧ s.seq = .ready ∧ s.txn = .none ∧
        t = finishRead (s.env.answer (readFirstByte a) Literal.filler)
          (txnWith (s.env.answer (readFirstByte a) Literal.filler) (readFirstByte a) Literal.filler
            { s with cur := some (.read a) })) := by
  rcases accepting_next h with ⟨hc, ht⟩ | ⟨hc, hk⟩
  · exact .inl ⟨hc, ht⟩
  · by_cases hr : s.seq = .ready
    · have hk' : transaction (readFirstByte a) Literal.filler finishRead { s with cur := some (.read a) } = .next t := by
        simpa [ready, hr] using hk
      exact .inr (.inr ⟨hc, hr, (transaction_next hk').1, (transaction_next hk').2⟩)
    · exact .inr (.inl ⟨hc, hr, by simpa [ready, hr, eq_comm] using hk⟩)

/-- What `WRITE` can do (40_register_access.md R108; 41_sequencer.md R135). -/
theorem execWrite_next {a : Addr} {v : Byte} {s t : State} (h : execWrite a v s = .next t) :
    (s.cur ≠ none ∧ t = s) ∨
      (s.cur = none ∧ s.seq ≠ .ready ∧ t = respond .gateClosed none { s with cur := some (.write a v) }) ∨
      (s.cur = none ∧ s.seq = .ready ∧ s.txn = .none ∧
        t = finishWrite (s.env.answer (writeFirstByte a) v)
          (txnWith (s.env.answer (writeFirstByte a) v) (writeFirstByte a) v
            { s with cur := some (.write a v) })) := by
  rcases accepting_next h with ⟨hc, ht⟩ | ⟨hc, hk⟩
  · exact .inl ⟨hc, ht⟩
  · by_cases hr : s.seq = .ready
    · have hk' : transaction (writeFirstByte a) v finishWrite { s with cur := some (.write a v) } = .next t := by
        simpa [ready, hr] using hk
      exact .inr (.inr ⟨hc, hr, (transaction_next hk').1, (transaction_next hk').2⟩)
    · exact .inr (.inl ⟨hc, hr, by simpa [ready, hr, eq_comm] using hk⟩)

/-- What `BRINGUP` can do: nothing while the CORE is busy, a refusal outside `Idle`, or the
pulse, one read and the verdict (41_sequencer.md R128, R131). -/
theorem execBringup_next {s t : State} (h : execBringup s = .next t) :
    (s.cur ≠ none ∧ t = s) ∨
      (s.cur = none ∧ s.seq ≠ .idle ∧ t = respond .notIdle none { s with cur := some .bringup }) ∨
      (s.cur = none ∧ s.seq = .idle ∧ s.txn = .none ∧
        ∃ r, VerifyAnswers s r ∧
          t = finishBringup r (txnWith r (readFirstByte s.params.idAddr) Literal.filler
            (resetPulse { s with cur := some .bringup }))) := by
  rcases accepting_next h with ⟨hc, ht⟩ | ⟨hc, hk⟩
  · exact .inl ⟨hc, ht⟩
  · by_cases hi : s.seq = .idle
    · have hk' : transaction (readFirstByte s.params.idAddr) Literal.filler finishBringup
          (resetPulse { s with cur := some .bringup }) = .next t := by
        simpa [hi] using hk
      exact .inr (.inr ⟨hc, hi, (transaction_next hk').1, _, rfl, (transaction_next hk').2⟩)
    · exact .inr (.inl ⟨hc, hi, by simpa [hi, eq_comm] using hk⟩)

/-- What the reserved word can do (30_encoding.md R92). -/
theorem execReserved_next {s t : State} (h : execReserved s = .next t) :
    (s.cur ≠ none ∧ t = s) ∨ (s.cur = none ∧ t = respond .illegalCommand none s) := by
  rcases accepting_next h with ⟨hc, ht⟩ | ⟨hc, hk⟩
  · exact .inl ⟨hc, ht⟩
  · refine .inr ⟨hc, ?_⟩
    cases hk
    rfl

/-- What a frame does: one transaction (40_register_access.md R100). -/
theorem execWriteFrame_next {a : Addr} {v : Byte} {s t : State} (h : execWriteFrame a v s = .next t) :
    s.txn = .none ∧ t = txnWith (s.env.answer (writeFirstByte a) v) (writeFirstByte a) v s :=
  transaction_next (guarded_next h).2

theorem execReadFrame_next {a : Addr} {s t : State} (h : execReadFrame a s = .next t) :
    s.txn = .none ∧ t = txnWith (s.env.answer (readFirstByte a) Literal.filler) (readFirstByte a) Literal.filler s :=
  transaction_next (guarded_next h).2

/-- With both latches written the exchange sends them and latches nothing (10_state.md R27). -/
theorem exchangeLatched_eq {s : State} {t0 t1 : Byte} (h0 : s.tx0 = some t0) (h1 : s.tx1 = some t1) (f0 f1 : Byte) :
    exchangeLatched f0 f1 s = exchange t0 t1 s := by
  have hl : latchFrame f0 f1 s = s := by
    cases s
    simp_all [latchFrame]
  simp [exchangeLatched, h0, h1, hl]

/-- The result a transaction leaves is the answer of its exchange (40_register_access.md R100). -/
theorem lastAnswer_txnWith (r : Answer) (t0 t1 : Byte) (s : State) : lastAnswer (txnWith r t0 t1 s) = r := by
  cases r <;> rfl

/-- What one phase of a command can do (10_state.md R21, R23). -/
theorem advance_next {s t : State} (h : advance s = .next t) :
    (s.cur = none ∧ t = s) ∨
      ∃ c, s.cur = some c ∧
        ((s.txn = .none ∧ t = begin c s) ∨
          (s.txn = .selected ∧ t = exchangeLatched (commandFrame s.params c).1 (commandFrame s.params c).2 s) ∨
          (s.txn = .exchanged ∧ t = finishCommand c (closeWindow s))) := by
  unfold advance at h
  cases hc : s.cur with
  | none => rw [hc] at h; cases h; exact .inl ⟨rfl, rfl⟩
  | some c =>
    refine .inr ⟨c, rfl, ?_⟩
    rw [hc] at h
    cases hx : s.txn with
    | none => simp only [hx] at h; cases h; exact .inl ⟨rfl, rfl⟩
    | selected => simp only [hx] at h; cases h; exact .inr (.inl ⟨rfl, rfl⟩)
    | exchanged => simp only [hx] at h; cases h; exact .inr (.inr ⟨rfl, rfl⟩)

/-- An invariant of the phases is an invariant of the rest of a command. -/
theorem resume_keeps {P : State → Prop} (hP : ∀ s t, P s → advance s = .next t → P t) (n : Nat) {s t : State}
    (hs : P s) (h : resume n s = .next t) : P t := by
  induction n generalizing s with
  | zero => cases h; exact hs
  | succ n ih =>
    unfold resume at h
    split at h
    · split at h
      · exact ih (hP _ _ hs ‹_›) h
      · cases h
      · cases h
    · cases h; exact hs

/-- A phase of a free CORE, or of a hung one, changes nothing (60_exceptions.md R154). -/
theorem advance_hung {s : State} (h : hung s = true) : advance s = .next s := by
  unfold hung at h
  split at h
  · rename_i hc hx h0 h1
    simp [advance, hc, hx, exchangeLatched_eq h0 h1, exchange, of_decide_eq_true h, exchangeWith]
  · cases h

theorem resume_hung {s : State} (h : hung s = true) (n : Nat) : resume n s = .next s := by
  induction n with
  | zero => rfl
  | succ n ih =>
    unfold resume
    rw [advance_hung h]
    split
    · exact ih
    · rfl

/-- What one step can do: a reset of the CORE, the frame of a command in progress and its
end, the rest of a command, a command taken from the host, or nothing. -/
theorem step_next {s t : State} (h : step s = .next t) :
    paramsLegal s.params = true ∧
      ((∃ rest, s.host = .coreReset :: rest ∧ takeReset { s with host := rest } = .next t) ∨
        ((∀ rest, s.host ≠ .coreReset :: rest) ∧
          ((∃ c i u, s.cur = some c ∧ pendingFrame s = some i ∧ exec i s = .next u ∧ t = finishCommand c u) ∨
            (∃ c, s.cur = some c ∧ pendingFrame s = none ∧ resume longestCommand s = .next t) ∨
            (∃ w rest, s.host = .word w :: rest ∧ s.cur = none ∧
              exec (decodeCommand w) { s with host := rest } = .next t) ∨
            (s.host = [] ∧ s.cur = none ∧ t = s)))) := by
  obtain ⟨hl, h⟩ := guarded_next h
  refine ⟨hl, ?_⟩
  split at h
  · rename_i rest hh
    exact .inl ⟨rest, hh, h⟩
  · rename_i c hc hr
    refine .inr ⟨fun rest he => hr rest he, ?_⟩
    split at h
    · rename_i i hp
      obtain ⟨u, hu, ht⟩ := andThen_next h
      exact .inl ⟨c, i, u, hc, hp, hu, ht⟩
    · exact .inr (.inl ⟨c, hc, ‹_›, h⟩)
  · rename_i w rest hh hc
    exact .inr ⟨fun r he => by simp_all, .inr (.inr (.inl ⟨w, rest, hh, hc, h⟩))⟩
  · rename_i hh hc
    exact .inr ⟨fun r he => by simp_all, .inr (.inr (.inr ⟨hh, hc, by cases h; rfl⟩))⟩

end Sys2Proof.Machine
end

