-- ==== Sys2Proof/Laws/PerInstr.lean ====
section
/-! SUPPORT. One law per instruction as a piece of the instruction set: its encoding lies in its row of the
opcode table (`Row`), the mask and match of the row being those of 30_encoding.md R80 and R89. -/

namespace Sys2Proof.Laws.Row

/-- The encoding of `i` matches the row of the opcode table that `i` stands for. -/
def Statement (i : Instr) : Prop :=
  match i, encode i with
  | .read _, .command c => c &&& 0x18000#17 = 0x00000#17
  | .write _ _, .command c => c &&& 0x18000#17 = 0x08000#17
  | .bringup, .command c => c &&& 0x18000#17 = 0x10000#17
  | .reserved, .command c => c &&& 0x18000#17 = 0x18000#17
  | .writeFrame _ _, .frame f => f &&& 0x8000#16 = 0x8000#16
  | .readFrame _, .frame f => f &&& 0x80FF#16 = 0x0000#16
  | _, _ => False

theorem read (a : Addr) : Statement (.read a) := by
  simp only [Statement, encode, commandWord]
  ext i hi
  interval_cases i <;> simp

theorem write (a : Addr) (v : Byte) : Statement (.write a v) := by
  simp only [Statement, encode, commandWord]
  ext i hi
  interval_cases i <;> simp

theorem bringup : Statement .bringup := rfl

theorem reserved : Statement .reserved := rfl

theorem writeFrame (a : Addr) (v : Byte) : Statement (.writeFrame a v) := by
  simp only [Statement, encode, frameWord]
  ext i hi
  interval_cases i <;> simp

theorem readFrame (a : Addr) : Statement (.readFrame a) := by
  simp only [Statement, encode, frameWord, Literal.filler]
  ext i hi
  interval_cases i <;> simp

end Sys2Proof.Laws.Row
end

