-- ==== Sys2Proof/Machine/Text.lean ====
section
/-! DEFINITION. The textual form of commands and of their results, and the two
pseudo-commands of the host's program (30_encoding.md R95, R96). -/

namespace Sys2Proof.Machine

/-- One hexadecimal digit, in capitals. -/
def hexDigit (n : Nat) : String :=
  match n with
  | 0 => "0" | 1 => "1" | 2 => "2" | 3 => "3" | 4 => "4" | 5 => "5" | 6 => "6" | 7 => "7"
  | 8 => "8" | 9 => "9" | 10 => "A" | 11 => "B" | 12 => "C" | 13 => "D" | 14 => "E" | _ => "F"

/-- A byte in hexadecimal with `0x` (30_encoding.md R95). -/
def hexByte (n : Nat) : String := "0x" ++ hexDigit (n / 16) ++ hexDigit (n % 16)

/-- The textual form of a command (30_encoding.md R95). -/
def commandText : Command → String
  | .bringup => "BRINGUP"
  | .read a => "READ " ++ hexByte a.toNat
  | .write a v => "WRITE " ++ hexByte a.toNat ++ ", " ++ hexByte v.toNat

/-- The names of the statuses (60_exceptions.md R150). -/
def statusText : Status → String
  | .ok => "OK"
  | .identityMismatch => "IdentityMismatch"
  | .transportFailure => "TransportFailure"
  | .gateClosed => "GateClosed"
  | .notIdle => "NotIdle"
  | .illegalCommand => "IllegalCommand"

/-- A command with its result after `->` (30_encoding.md R95). -/
def resultText (c : Command) (status : Status) (data : Option Byte) : String :=
  commandText c ++ " -> " ++ statusText status ++
    match data with
    | none => ""
    | some b => " " ++ hexByte b.toNat

/-- `ENABLE`: one write of the mode register; the constants are the host program's (30_encoding.md R96). -/
def enable (modeAddr : Addr) (modeValue : Byte) : Instr := .write modeAddr modeValue

/-- `POLL`: one read of the polled register; the constant is the host program's (30_encoding.md R96). -/
def poll (pollAddr : Addr) : Instr := .read pollAddr

end Sys2Proof.Machine
end

