-- ==== Sys2Proof/Tests/Slice0.lean ====
section
/-! SUPPORT. The model's own tests, one step each on small states, with the expected results of
95_test_vectors.md (the section is named at each group; words, frames and texts are written out as
the spec writes them, other uses of the source's literals are those of Machine/Literals.lean), and for every statement with hypotheses
a witness theorem that meets them. -/

namespace Sys2Proof.Tests

open Sys2Proof Sys2Proof.Machine

/-! ### The configuration and the states of 95_test_vectors.md -/

/-- The default configuration with `ID_ADDR = 0x42` (95_test_vectors.md, conventions). -/
def p42 : Params := { Params.default with idAddr := 0x42 }

/-- An environment whose next answers are fixed (a test double). -/
def doubled (as : List Answer) : Env := { draws := 0, script := as.map some, stub := none }

/-- The reset state, with the next answers fixed (95_test_vectors.md section 5). -/
def fresh (as : List Answer) : State := { State.resetWith p42 with env := doubled as }

/-- The start state of 95_test_vectors.md section 3. -/
def up (as : List Answer) : State :=
  { fresh as with seq := .ready, rst := some .high, idSeen := some 0x12 }

/-- A CORE whose verification read returned `Literal.otherIdentity` (95_test_vectors.md P2). -/
def failed : State := { fresh [] with seq := .fatal, rst := some .high, idSeen := some Literal.otherIdentity, cause := 1 }

/-- The source's example write with its window open and its frame latched, with the next answers fixed. -/
def opened (as : List Answer) : State :=
  { up as with
    cur := some (.write Literal.exampleAddr Literal.exampleValue), txn := .selected, cs := .low
    tx0 := some (writeFirstByte Literal.exampleAddr), tx1 := some Literal.exampleValue }

/-- The source's example write in an exchange that never returns (95_test_vectors.md section 3). -/
def hanging : State := opened [.never]

/-- `BRINGUP` in progress at a value of `SEQ`, with what R41 says of the reset line there. -/
def bringing (q : Seq) (rst : Option Level) (as : List Answer) : State :=
  { fresh as with seq := q, rst := rst, cur := some .bringup }

/-- A brought-up CORE whose read of the source's example address is about to put its frame on the wire. -/
def reading (as : List Answer) : State := { up as with cur := some (.read Literal.exampleAddr) }

/-- A brought-up CORE with the reference environment of 95_test_vectors.md P3 connected. -/
def stubbed : State :=
  { up [] with env := { draws := 0, script := [], stub := some { reg0 := [(0x42, 0x12)], reg := [(0x42, 0x12)], ro := [] } } }

/-- What a function says of the next state, if there is one. -/
def after {α : Type} (f : State → α) : Result → Option α
  | .next s => some (f s)
  | _ => none

/-! ### Well-formedness: one ill-formed term for each check (30_encoding.md R93; 00_scope.md R9) -/

theorem test_read_128_refused : RawCommand.check (.read 128) = .error (.addressAbove127 128) := by decide
theorem test_write_128_refused : RawCommand.check (.write 128 0) = .error (.addressAbove127 128) := by decide
theorem test_write_value_256_refused : RawCommand.check (.write 1 256) = .error (.valueAbove255 256) := by decide
theorem test_write_127_255_accepted : RawCommand.check (.write 127 255) = .ok (.write 0x7F 0xFF) := by decide
theorem test_ill_formed : [RawCommand.read 128, .write 128 0, .write 1 256].all (fun r => !r.wellFormed) = true := by decide
theorem test_t_high_0_illegal : paramsLegal { p42 with tHigh := 0 } = false := by decide
theorem test_t_low_0_illegal : paramsLegal { p42 with tLow := 0 } = false := by decide
theorem test_t_settle_0_illegal : paramsLegal { p42 with tLow := 0, tSettle := 0 } = false := by decide
theorem test_t_low_6_illegal : paramsLegal { p42 with tLow := 6 } = false := by decide
theorem test_time_unit_0_illegal : paramsLegal { p42 with timeUnit := 0 } = false := by decide
theorem test_t_low_5_legal : paramsLegal { p42 with tLow := 5 } = true := by decide

/-! ### Decoding: words written out from 30_encoding.md R80 and R89 (95_test_vectors.md sections 2 and 6) -/

theorem test_word_read : decodeCommand 0b00_1000010_00000000 = .read 0x42 := by decide
theorem test_word_read_ignored : decodeCommand 0b00_1111111_11111111 = .read 0x7F := by decide
theorem test_word_write : decodeCommand 0b01_0111010_00001111 = .write 0x3A 0x0F := by decide
theorem test_word_write_last : decodeCommand 0b01_1111111_11111111 = .write 0x7F 0xFF := by decide
theorem test_word_bringup : decodeCommand 0b10_0000000_00000000 = .bringup := by decide
theorem test_word_bringup_ignored : decodeCommand 0b10_1111111_11111111 = .bringup := by decide
theorem test_word_reserved : decodeCommand 0b11_0000000_00000000 = .reserved := by decide
theorem test_word_reserved_ignored : decodeCommand 0b11_1111111_11111111 = .reserved := by decide
theorem test_frame_write : decodeFrame 0b1_0000001_10000000 = .ok (.writeFrame 0x01 0x80) := by decide
theorem test_frame_write_zero : decodeFrame 0b1_1000000_00000000 = .ok (.writeFrame 0x40 0x00) := by decide
theorem test_frame_read : decodeFrame 0b0_1000010_00000000 = .ok (.readFrame 0x42) := by decide
theorem test_frame_never_sent : decodeFrame 0b0_1000010_00000001 = .error .unsentFrame := by decide
theorem test_table_word_too_long : decodeTableWord 17 0x20000 = none := by decide
theorem test_table_frame_too_long : decodeTableWord 16 0x10000 = none := by decide
theorem test_encode_write : encode (.write 0x12 0x34) = .command 0x09234 := by decide
theorem test_encode_read : encode (.read 0x7F) = .command 0x07F00 := by decide
theorem test_encode_bringup : encode .bringup = .command 0x10000 := by decide
theorem test_encode_reserved : encode .reserved = .command 0x18000 := by decide
theorem test_encode_write_frame : encode (.writeFrame 0x3A 0x0F) = .frame 0xBA0F := by decide
theorem test_encode_read_frame : encode (.readFrame 0x42) = .frame 0x4200 := by decide

/-! ### One step of each instruction (95_test_vectors.md sections 3, 4, 5) -/

theorem test_read_gives_second_byte :
    after (fun t => (t.trace, t.rx0, t.rx1)) (exec (.read 0x7F) (up [.ok 0x12 0xFF])) =
      some ([.line .cs .low, .xchg 0x7F 0x00 0x12 0xFF, .line .cs .high, .resp .ok (some 0xFF)],
        some 0x12, some 0xFF) := by decide

theorem test_write_drops_bytes :
    after (fun t => t.trace) (exec (.write 0x42 0x55) (up [.ok 0xEE 0xEF])) =
      some [.line .cs .low, .xchg 0xC2 0x55 0xEE 0xEF, .line .cs .high, .resp .ok none] := by decide

theorem test_bringup_match :
    after (fun t => (t.trace, t.seq, t.idSeen, t.cause)) (exec .bringup (fresh [.ok 0xEE 0x12])) =
      some ([.line .rst .high, .wait 1, .line .rst .low, .wait 1, .line .rst .high, .wait 5,
        .line .cs .low, .xchg 0x42 0x00 0xEE 0x12, .line .cs .high, .resp .ok (some 0x12)],
        .ready, some 0x12, 0) := by decide

theorem test_bringup_right_byte_in_wrong_place :
    after (fun t => (responses t.trace, t.seq, t.idSeen, t.cause)) (exec .bringup (fresh [.ok 0x12 0x92])) =
      some ([(.identityMismatch, some 0x92)], .fatal, some 0x92, 1) := by decide

theorem test_reserved_when_ready :
    after (fun t => (t.trace, t.seq)) (exec .reserved (up [])) = some ([.resp .illegalCommand none], .ready) := by decide

theorem test_reserved_when_fatal :
    after (fun t => (t.trace, t.seq)) (exec .reserved failed) = some ([.resp .illegalCommand none], .fatal) := by decide

theorem test_write_frame_window :
    after (fun t => (t.trace, t.txn)) (exec (.writeFrame 0x3A 0x0F) (up [.ok 0x00 0x00])) =
      some ([.line .cs .low, .xchg 0xBA 0x0F 0x00 0x00, .line .cs .high], .none) := by decide

theorem test_read_frame_hangs :
    after (fun t => (t.trace, t.txn, t.cs)) (exec (.readFrame 0x42) (up [.never])) =
      some ([.line .cs .low], .selected, .low) := by decide

/-! ### The gate, the configurations, the reset (95_test_vectors.md sections 4, 5, 8) -/

theorem test_gate_closed_before_bringup :
    after (fun t => t.trace) (exec (.write Literal.exampleAddr Literal.exampleValue) (fresh [])) = some [.resp .gateClosed none] := by decide

theorem test_cs_active_high :
    after (fun t => t.trace) (exec (.read 0x7F)
      { up [.ok 0x12 0xFF] with params := { p42 with csActive := .high }, cs := .low }) =
      some [.line .cs .high, .xchg 0x7F 0x00 0x12 0xFF, .line .cs .low, .resp .ok (some 0xFF)] := by decide

theorem test_response_words :
    (responseWord 0 .ok (some 0x12), responseWord 0 .identityMismatch (some 0xFF)) = (0x012, 0x1FF) := by decide

theorem test_outputs_of_hang : outputs hanging = { seq := 5, busy := true, idSeen := some 0x12, cause := 0 } := by decide

theorem test_exchange_phase :
    after (fun t => (t.trace, t.result, t.txn)) (advance (opened [.ok 0xEE 0xEF])) =
      some ([.xchg 0x81 0x80 0xEE 0xEF], some (.ok 0xEE 0xEF), .exchanged) := by decide

theorem test_reset_after_fatal :
    after (fun t => (t.seq, t.cause, t.rst, t.trace)) (step { failed with host := [.coreReset] }) =
      some (.idle, 0, none, []) := by decide

theorem test_stub_keeps_write : (stubbed.env.taken 0x42 0xFF 0xFF).register 0x7F = some 0xFF := by decide

theorem test_stub_identity_read_only : (stubbed.env.taken 0x42 0xC2 0x55).register 0x42 = some 0x12 := by decide

theorem test_text_read : resultText (.read 0x01) .ok (some 0x80) = "READ 0x01 -> OK 0x80" := by decide

theorem test_text_write : resultText (.write 0x01 0x80) .ok none = "WRITE 0x01, 0x80 -> OK" := by decide

theorem test_text_bringup :
    resultText .bringup .identityMismatch (some 0x13) = "BRINGUP -> IdentityMismatch 0x13" := by decide

/-! ### Witnesses: for every statement with hypotheses, a state and operands that meet them -/

/-- The start states of the tests are safe and accept a command. -/
theorem fresh_accepts (as : List Answer) : Accepts (fresh as) := ⟨rfl, rfl, rfl⟩
theorem up_accepts (as : List Answer) : Accepts (up as) := ⟨rfl, rfl, rfl⟩
theorem failed_accepts : Accepts failed := ⟨rfl, rfl, rfl⟩

theorem fresh_safe (as : List Answer) : Safe (fresh as) := by
  constructor <;> constructor <;> simp [fresh, State.resetWith, csDeasserted]

theorem up_safe (as : List Answer) : Safe (up as) := by
  constructor <;> constructor <;> simp [up, fresh, State.resetWith, csDeasserted, p42, Params.default, Literal.idExpected]

theorem failed_safe : Safe failed := by
  constructor <;> constructor <;>
    simp [failed, fresh, State.resetWith, csDeasserted, p42, Params.default, Literal.idExpected, Literal.otherIdentity]

theorem opened_safe (as : List Answer) : Safe (opened as) := by
  constructor <;> constructor <;>
    simp [opened, up, fresh, State.resetWith, csAsserted, p42, Params.default, Literal.idExpected, commandFrame,
      writeFirstByte, Literal.writeFlag]

theorem hanging_hung : Hung hanging := ⟨by decide, by decide⟩

/-- `CommandWordsDecodeByTopBits`: both ends of each range, and a pair for its second half. -/
theorem witness_CommandWordsDecodeByTopBits :
    (0x07FFF : CommandWord).toNat < 0x8000 ∧
    (0x8000 ≤ (0x08000 : CommandWord).toNat ∧ (0x0FFFF : CommandWord).toNat < 0x10000) ∧
    (0x10000 ≤ (0x10000 : CommandWord).toNat ∧ (0x17FFF : CommandWord).toNat < 0x18000) ∧
    0x18000 ≤ (0x18000 : CommandWord).toNat ∧
    (0x10000 : CommandWord).extractLsb' 15 2 = (0x17FFF : CommandWord).extractLsb' 15 2 ∧
    (0x10000 : CommandWord).getLsbD 16 = true ∧
    (0x00000 : CommandWord).extractLsb' 15 2 = (0x000FF : CommandWord).extractLsb' 15 2 ∧
    (0x00000 : CommandWord).getLsbD 15 = false ∧
    (0x00000 : CommandWord).extractLsb' 8 7 = (0x000FF : CommandWord).extractLsb' 8 7 := by decide

/-- `TwoFrameFormatsOnly`: a frame for each clause, at the ends of the fields. -/
theorem witness_TwoFrameFormatsOnly :
    decodeFrame 0xFFFF = .ok (.writeFrame 0x7F 0xFF) ∧ decodeFrame 0x7F00 = .ok (.readFrame 0x7F) ∧
    decodeFrame 0x00FF = .error .unsentFrame := by decide

/-- `AddressAbove127IsRefused`: the boundary values of each clause. -/
theorem witness_AddressAbove127IsRefused : 127 < 128 ∧ 255 < 256 ∧ 128 ≤ 128 ∧ 256 ≤ 256 := by decide

/-- `FrameIsOneTransaction`: both frames, and for each of them the three answers. -/
theorem witness_FrameIsOneTransaction :
    (∃ a v, Instr.writeFrame Literal.exampleAddr Literal.exampleValue = .writeFrame a v ∧
      writeFirstByte Literal.exampleAddr = writeFirstByte a ∧ Literal.exampleValue = v) ∧
    (∃ a, Instr.readFrame 0x42 = .readFrame a ∧ (0x42 : Byte) = readFirstByte a) ∧
    paramsLegal (up []).params = true ∧ (up []).txn = .none ∧
    ∀ t0 t1 : Byte, Answers (up [.ok 0xEE 0xEF]) t0 t1 (.ok 0xEE 0xEF) ∧ Answers (up [.fail]) t0 t1 .fail ∧
      Answers (up [.never]) t0 t1 .never :=
  ⟨⟨_, _, rfl, rfl, rfl⟩, ⟨0x42, rfl, by decide⟩, by decide, rfl, fun _ _ => ⟨rfl, rfl, rfl⟩⟩

/-- `FrameInsideWindowIsRefused`. -/
theorem witness_FrameInsideWindowIsRefused : paramsLegal hanging.params = true ∧ hanging.txn ≠ .none := by decide

/-- `ReadThroughOpenGate` and `ReadDependsOnSecondByteOnly`. -/
theorem witness_ReadThroughOpenGate :
    (Accepts (up [.ok 0xFF 0x80]) ∧ (up [.ok 0xFF 0x80]).seq = .ready ∧
      Answers (up [.ok 0xFF 0x80]) (readFirstByte 0x7F) 0x00 (.ok 0xFF 0x80)) ∧
    Accepts (up [.fail]) ∧ (up [.fail]).seq = .ready ∧ Answers (up [.fail]) (readFirstByte 0x00) 0x00 .fail :=
  ⟨⟨up_accepts _, rfl, rfl⟩, up_accepts _, rfl, rfl⟩

theorem witness_ReadDependsOnSecondByteOnly :
    Accepts (up []) ∧ (up []).seq = .ready ∧
    (doubled [.ok 0x00 0x80]).answer (readFirstByte Literal.exampleAddr) 0x00 = .ok 0x00 0x80 ∧
    (doubled [.ok 0xFF 0x80]).answer (readFirstByte Literal.exampleAddr) 0x00 = .ok 0xFF 0x80 :=
  ⟨up_accepts _, rfl, rfl, rfl⟩

/-- `WriteThroughOpenGate` and `WriteDropsReceivedBytes`. -/
theorem witness_WriteThroughOpenGate :
    (Accepts (up [.ok 1 2]) ∧ (up [.ok 1 2]).seq = .ready ∧
      Answers (up [.ok 1 2]) (writeFirstByte 0x7F) 0xFF (.ok 1 2)) ∧
    Accepts (up [.fail]) ∧ (up [.fail]).seq = .ready ∧ Answers (up [.fail]) (writeFirstByte 0x00) 0x00 .fail :=
  ⟨⟨up_accepts _, rfl, rfl⟩, up_accepts _, rfl, rfl⟩

theorem witness_WriteDropsReceivedBytes :
    Accepts (up []) ∧ (up []).seq = .ready ∧
    (doubled [.ok 1 2]).answer (writeFirstByte Literal.exampleAddr) Literal.exampleValue = .ok 1 2 ∧
    (doubled [.ok 3 4]).answer (writeFirstByte Literal.exampleAddr) Literal.exampleValue = .ok 3 4 :=
  ⟨up_accepts _, rfl, rfl, rfl⟩

/-- `GateClosedOutsideReady`: Idle and Fatal. -/
theorem witness_GateClosedOutsideReady :
    (Accepts (fresh []) ∧ (fresh []).seq ≠ .ready) ∧ Accepts failed ∧ failed.seq ≠ .ready :=
  ⟨⟨fresh_accepts _, by decide⟩, failed_accepts, by decide⟩

/-- `RegisterFailureLeavesGateOpen`: READ and WRITE. -/
theorem witness_RegisterFailureLeavesGateOpen :
    (Command.read Literal.exampleAddr ≠ .bringup ∧ Command.write Literal.exampleAddr Literal.exampleValue ≠ .bringup) ∧
    Accepts (up [.fail]) ∧ (up [.fail]).seq = .ready ∧
    Answers (up [.fail]) (commandFrame p42 (.read Literal.exampleAddr)).1 (commandFrame p42 (.read Literal.exampleAddr)).2 .fail ∧
    Answers (up [.fail]) (commandFrame p42 (.write Literal.exampleAddr Literal.exampleValue)).1 (commandFrame p42 (.write Literal.exampleAddr Literal.exampleValue)).2 .fail :=
  ⟨by decide, up_accepts _, rfl, rfl, rfl⟩

/-- `BringupMatchOpensGate`. -/
theorem witness_BringupMatchOpensGate :
    Safe (fresh [.ok 0xEE 0x12]) ∧ Accepts (fresh [.ok 0xEE 0x12]) ∧ (fresh [.ok 0xEE 0x12]).seq = .idle ∧
    VerifyAnswers (fresh [.ok 0xEE 0x12]) (.ok 0xEE p42.idExpected) :=
  ⟨fresh_safe _, fresh_accepts _, rfl, rfl⟩

/-- `BringupMismatchIsFatal`: the expected byte with one bit flipped. -/
theorem witness_BringupMismatchIsFatal :
    Accepts (fresh [.ok 0x12 0x92]) ∧ (fresh [.ok 0x12 0x92]).seq = .idle ∧ (0x92 : Byte) ≠ p42.idExpected ∧
    VerifyAnswers (fresh [.ok 0x12 0x92]) (.ok 0x12 0x92) :=
  ⟨fresh_accepts _, rfl, by decide, rfl⟩

/-- `BringupTransportFailureIsFatal`. -/
theorem witness_BringupTransportFailureIsFatal :
    Accepts (fresh [.fail]) ∧ (fresh [.fail]).seq = .idle ∧ VerifyAnswers (fresh [.fail]) .fail :=
  ⟨fresh_accepts _, rfl, rfl⟩

/-- `BringupOnlyFromIdle`: Ready and Fatal. -/
theorem witness_BringupOnlyFromIdle :
    (Accepts (up []) ∧ (up []).seq ≠ .idle) ∧ Accepts failed ∧ failed.seq ≠ .idle :=
  ⟨⟨up_accepts _, by decide⟩, failed_accepts, by decide⟩

/-- `ReservedWordIsRefusedEverywhere`. -/
theorem witness_ReservedWordIsRefusedEverywhere : Accepts (fresh []) ∧ Accepts (up []) ∧ Accepts failed :=
  ⟨fresh_accepts _, up_accepts _, failed_accepts⟩

/-- `HangLeavesWindowOpen`: both halves. -/
theorem witness_HangLeavesWindowOpen :
    (Command.read Literal.exampleAddr ≠ .bringup ∧ Accepts (up [.never]) ∧ (up [.never]).seq = .ready ∧
      Answers (up [.never]) (commandFrame p42 (.read Literal.exampleAddr)).1 (commandFrame p42 (.read Literal.exampleAddr)).2 .never) ∧
    Accepts (fresh [.never]) ∧ (fresh [.never]).seq = .idle ∧ VerifyAnswers (fresh [.never]) .never :=
  ⟨⟨by decide, up_accepts _, rfl, rfl⟩, fresh_accepts _, rfl, rfl⟩

/-- `HangLastsUntilReset`: with a word offered, and with a reset coming. -/
theorem witness_HangLastsUntilReset :
    (Hung { hanging with host := [.word 0x04200] } ∧ ¬ ResetNext { hanging with host := [.word 0x04200] }) ∧
    Hung { hanging with host := [.coreReset] } ∧ { hanging with host := [.coreReset] }.host = .coreReset :: [] :=
  ⟨⟨⟨by decide, by decide⟩, fun h => by obtain ⟨r, h⟩ := h; cases h⟩, ⟨by decide, by decide⟩, rfl⟩

/-- `SequencerPhases`: the five positions of `SEQ`. -/
theorem witness_SequencerPhases :
    [(Seq.idle, none), (.heldHigh, some Level.high), (.asserted, some .low), (.settling, some .high),
      (.verify, some .high)].all (fun q => (bringing q.1 q.2 []).cur = some .bringup ∧
        (bringing q.1 q.2 []).txn = .none ∧ (bringing q.1 q.2 []).seq = q.1) = true := by decide

/-- `PhasesRefineCommands`. -/
theorem witness_PhasesRefineCommands :
    (Safe (fresh []) ∧ Accepts (fresh [])) ∧ (Safe (up []) ∧ Accepts (up [])) ∧ Safe failed ∧ Accepts failed :=
  ⟨⟨fresh_safe _, fresh_accepts _⟩, ⟨up_safe _, up_accepts _⟩, failed_safe, failed_accepts⟩

/-- `AdvanceKeepsSafe` and `SequencerMovesAlongItsEdges`: a phase inside the reset pulse. -/
theorem witness_AdvanceKeepsSafe :
    Safe (bringing .heldHigh (some .high) []) ∧
    ∃ t, advance (bringing .heldHigh (some .high) []) = .next t ∧ t.seq = .asserted := by
  refine ⟨?_, _, rfl, rfl⟩
  constructor <;> constructor <;> simp [bringing, fresh, State.resetWith, csDeasserted]

/-- `HoldsAreRequestedInOrder`. -/
theorem witness_HoldsAreRequestedInOrder : Accepts (fresh [.fail]) ∧ (fresh [.fail]).seq = .idle :=
  ⟨fresh_accepts _, rfl⟩

/-- `StepKeepsSafe`, `StepKeepsChipSelectDiscipline`, `StepSendsOnlyLegalFrames`,
`StepKeepsMemoryCanonical`, `StepKeepsConfiguration`, `TraceOnlyGrows`: a step that is taken. -/
theorem witness_StepKeepsSafe :
    Safe { fresh [.ok 0xEE 0x12] with host := [.word 0x10000] } ∧
    Disciplined { fresh [.ok 0xEE 0x12] with host := [.word 0x10000] } ∧
    framesLegal { fresh [.ok 0xEE 0x12] with host := [.word 0x10000] }.trace = true ∧
    { fresh [.ok 0xEE 0x12] with host := [.word 0x10000] }.env.memoryWf = true ∧
    ∃ t, step { fresh [.ok 0xEE 0x12] with host := [.word 0x10000] } = .next t ∧ t.seq = .ready := by
  refine ⟨?_, rfl, rfl, rfl, ?_⟩
  · constructor <;> constructor <;> simp [fresh, State.resetWith, csDeasserted]
  · exact ⟨_, rfl, rfl⟩

/-- `StepKeepsChipSelectDiscipline`, second half: a step that opens a window it does not close. -/
theorem witness_StepKeepsChipSelectDiscipline :
    Safe { up [.never] with host := [.word 0x00100] } ∧ { up [.never] with host := [.word 0x00100] }.cur = none ∧
    ∃ t, step { up [.never] with host := [.word 0x00100] } = .next t ∧ t.txn ≠ .none := by
  refine ⟨?_, rfl, ?_⟩
  · constructor <;> constructor <;>
      simp [up, fresh, State.resetWith, csDeasserted, p42, Params.default, Literal.idExpected]
  · exact ⟨_, rfl, by decide⟩

/-- `TraceOnlyGrows`, second half: a reset that is taken. -/
theorem witness_TraceOnlyGrows :
    ResetNext { failed with host := [.coreReset] } ∧ ∃ t, step { failed with host := [.coreReset] } = .next t :=
  ⟨⟨[], rfl⟩, _, rfl⟩

/-- `GateOpensOnlyByMatchingVerification`. -/
theorem witness_GateOpensOnlyByMatchingVerification :
    Safe { fresh [.ok 0xEE 0x12] with host := [.word 0x17FFF] } ∧
    { fresh [.ok 0xEE 0x12] with host := [.word 0x17FFF] }.cur = none ∧
    { fresh [.ok 0xEE 0x12] with host := [.word 0x17FFF] }.seq ≠ .ready ∧
    ∃ t, step { fresh [.ok 0xEE 0x12] with host := [.word 0x17FFF] } = .next t ∧ t.seq = .ready := by
  refine ⟨?_, rfl, by decide, ?_⟩
  · constructor <;> constructor <;> simp [fresh, State.resetWith, csDeasserted]
  · exact ⟨_, rfl, rfl⟩

/-- `GateStaysOpenUntilReset`: a read of the identity register that returns another byte. -/
theorem witness_GateStaysOpenUntilReset :
    Safe { up [.ok 0x00 Literal.otherIdentity] with host := [.word 0x04200] } ∧
    { up [.ok 0x00 Literal.otherIdentity] with host := [.word 0x04200] }.seq = .ready ∧
    ¬ ResetNext { up [.ok 0x00 Literal.otherIdentity] with host := [.word 0x04200] } ∧
    ∃ t, step { up [.ok 0x00 Literal.otherIdentity] with host := [.word 0x04200] } = .next t := by
  refine ⟨?_, rfl, (fun h => by obtain ⟨r, h⟩ := h; cases h), _, rfl⟩
  constructor <;> constructor <;>
    simp [up, fresh, State.resetWith, csDeasserted, p42, Params.default, Literal.idExpected]

/-- `FatalIsTerminal`: a write offered after the failed verification (95_test_vectors.md P2). -/
theorem witness_FatalIsTerminal :
    Safe { failed with host := [.word 0x08180] } ∧ { failed with host := [.word 0x08180] }.seq = .fatal ∧
    ¬ ResetNext { failed with host := [.word 0x08180] } ∧
    ∃ t, step { failed with host := [.word 0x08180] } = .next t := by
  refine ⟨?_, rfl, (fun h => by obtain ⟨r, h⟩ := h; cases h), _, rfl⟩
  constructor <;> constructor <;>
    simp [failed, fresh, State.resetWith, csDeasserted, p42, Params.default, Literal.idExpected, Literal.otherIdentity]

/-- `EveryCommandEndsWithOneResponse` and `PerformedCommandIsOneTransaction`: answered and not. -/
theorem witness_PerformedCommandIsOneTransaction :
    Command.read Literal.exampleAddr ≠ .bringup ∧ Accepts (up [.ok 1 2]) ∧ (up [.ok 1 2]).seq = .ready ∧
    ¬ Answers (up [.ok 1 2]) (commandFrame p42 (.read Literal.exampleAddr)).1 (commandFrame p42 (.read Literal.exampleAddr)).2 .never ∧
    Answers (up [.ok 1 2]) (commandFrame p42 (.read Literal.exampleAddr)).1 (commandFrame p42 (.read Literal.exampleAddr)).2 (.ok 1 2) :=
  ⟨by decide, up_accepts _, rfl, (fun h => by cases h), rfl⟩

/-- `ReadFrame`, `WriteFrame`, `BringupAndReservedFrame`: each instruction gives a next state. -/
theorem witness_frames :
    (∃ t, exec (.read Literal.exampleAddr) stubbed = .next t) ∧ (∃ t, exec (.readFrame Literal.exampleAddr) stubbed = .next t) ∧
    (∃ t, exec (.write Literal.exampleAddr Literal.exampleValue) stubbed = .next t ∧ (0x02 : Addr) ≠ addressOf (writeFirstByte Literal.exampleAddr)) ∧
    (∃ t, exec (.writeFrame Literal.exampleAddr Literal.exampleValue) stubbed = .next t) ∧ (∃ t, exec .bringup (fresh [.fail]) = .next t) ∧
    ∃ t, exec .reserved stubbed = .next t :=
  ⟨⟨_, rfl⟩, ⟨_, rfl⟩, ⟨_, rfl, by decide⟩, ⟨_, rfl⟩, ⟨_, rfl⟩, _, rfl⟩

/-- `RoundTripThroughReferencePeripheral`: a register that can be written, and `ID_ADDR`. -/
theorem witness_RoundTripThroughReferencePeripheral :
    ∃ st, Accepts stubbed ∧ stubbed.seq = .ready ∧ stubbed.env.stub = some st ∧ stubbed.env.script = [] ∧
      st.reg.wf = true ∧ st.readOnly stubbed.params.idAddr Literal.exampleAddr = false ∧
      st.readOnly stubbed.params.idAddr 0x42 = true :=
  ⟨_, ⟨rfl, rfl, rfl⟩, rfl, rfl, rfl, by decide, by decide, by decide⟩

/-- `StepRunsOfferedWord`. -/
theorem witness_StepRunsOfferedWord :
    paramsLegal (up []).params = true ∧ (up []).cur = none ∧
    { up [] with host := [.word 0x00100] }.host = .word 0x00100 :: [] := ⟨by decide, rfl, rfl⟩

/-- `StepRunsPendingFrame`: a register command, and `BRINGUP` in `Verify`. -/
theorem witness_StepRunsPendingFrame :
    paramsLegal (reading []).params = true ∧ ¬ ResetNext (reading []) ∧ (reading []).cur = some (.read Literal.exampleAddr) ∧
    pendingFrame (reading []) = some (.readFrame Literal.exampleAddr) ∧
    pendingFrame (bringing .verify (some .high) []) = some (.readFrame 0x42) :=
  ⟨by decide, (fun h => by obtain ⟨r, h⟩ := h; cases h), rfl, by decide, by decide⟩

/-- `FreeCoreWaitsOrResets`: nothing to do, and a reset. -/
theorem witness_FreeCoreWaitsOrResets :
    paramsLegal (up []).params = true ∧ (up []).cur = none ∧ (up []).host = [] ∧
    { failed with host := [.coreReset] }.host = .coreReset :: [] := ⟨by decide, rfl, rfl, rfl⟩

/-- `ResetWhileRunningIsRefused`. -/
theorem witness_ResetWhileRunningIsRefused :
    paramsLegal (reading []).params = true ∧ (reading []).cur ≠ none ∧
    hung { reading [] with host := [.coreReset] } = false ∧
    { reading [] with host := [.coreReset] }.host = .coreReset :: [] := ⟨by decide, by decide, by decide, rfl⟩

/-- `BusyCoreTakesNoWord`: both halves. -/
theorem witness_BusyCoreTakesNoWord :
    hanging.cur ≠ none ∧ ¬ ResetNext hanging ∧ paramsLegal hanging.params = true ∧ ∃ t, step hanging = .next t :=
  ⟨by decide, (fun h => by obtain ⟨r, h⟩ := h; cases h), by decide, _, rfl⟩

/-- `IllegalConfigurationIsRefused`: 95_test_vectors.md section 5, the third configuration. -/
theorem witness_IllegalConfigurationIsRefused :
    paramsLegal { up [] with params := { p42 with tLow := 6 } }.params = false := by decide

/-- `StagedWordRunsNext`, at the state after reset. -/
theorem witness_StagedWordRunsNext : paramsLegal State.reset.params = true := by decide

/-- `FirstByteDoesNotDependOnFrame`: the reference environment, asked by a read and by a write. -/
theorem witness_FirstByteDoesNotDependOnFrame :
    (∃ r0 r1, stubbed.env.answer (readFirstByte Literal.exampleAddr) 0x00 = .ok r0 r1) ∧
    ∃ r0 r1, stubbed.env.answer (writeFirstByte 0x7F) 0xFF = .ok r0 r1 := ⟨⟨_, _, rfl⟩, _, _, rfl⟩

/-- `ExchangePhaseSendsTheLatches`: the three answers, and each latch without a value. -/
theorem witness_ExchangePhaseSendsTheLatches :
    (∀ as, Safe (opened as) ∧ (opened as).cur = some (.write Literal.exampleAddr Literal.exampleValue) ∧
      (opened as).txn = .selected ∧ (opened as).tx0 = some (writeFirstByte Literal.exampleAddr) ∧
      (opened as).tx1 = some Literal.exampleValue) ∧
    (∀ t0 t1 : Byte, Answers (opened [.ok 0xEE 0xEF]) t0 t1 (.ok 0xEE 0xEF) ∧
      Answers (opened [.fail]) t0 t1 .fail ∧ Answers (opened [.never]) t0 t1 .never) ∧
    { opened [] with tx0 := none }.tx0 = none ∧ { opened [] with tx1 := none }.tx1 = none :=
  ⟨fun as => ⟨opened_safe as, rfl, rfl, rfl, rfl⟩, fun _ _ => ⟨rfl, rfl, rfl⟩, rfl, rfl⟩

/-- `ResponseDoesNotReadTheFirstByte`: a WRITE, and a failed transaction. -/
theorem witness_ResponseDoesNotReadTheFirstByte :
    (∃ a v, Command.write 0x01 0x80 = .write a v) ∧ (txnWith .fail 0x42 0x00 (up [])).result = some .fail :=
  ⟨⟨_, _, rfl⟩, rfl⟩

end Sys2Proof.Tests
end

section
/-! PROOF. The first byte of a frame (30_encoding.md R81 to R83): the read/write flag in front of
the 7-bit address. -/

namespace Sys2Proof.Machine

/-- The first byte of a write is a 1 and then the address (30_encoding.md R81). -/
theorem writeFirstByte_eq_cons (a : Addr) : writeFirstByte a = a.cons true := by
  ext i hi
  interval_cases i <;> simp [writeFirstByte, Literal.writeFlag, BitVec.getElem_cons]

/-- The first byte of a read is a 0 and then the address (30_encoding.md R81). -/
theorem readFirstByte_eq_cons (a : Addr) : readFirstByte a = a.cons false := by
  ext i hi
  interval_cases i <;> simp [readFirstByte, Literal.addressMask, BitVec.getElem_cons]

theorem ite_firstByte_eq_cons (w : Bool) (a : Addr) :
    (if w then writeFirstByte a else readFirstByte a) = a.cons w := by
  cases w
  · simp [readFirstByte_eq_cons]
  · simp [writeFirstByte_eq_cons]

theorem isWrite_eq_msb (b : Byte) : isWrite b = b.msb := by
  simp [isWrite, BitVec.msb_eq_getLsbD_last]

@[simp] theorem isWrite_writeFirstByte (a : Addr) : isWrite (writeFirstByte a) = true := by
  rw [isWrite_eq_msb, writeFirstByte_eq_cons, BitVec.msb_cons]

/-- Every byte is the first byte of exactly one intent and address (30_encoding.md R82): its
flag and its address field. -/
theorem existsUnique_cons_eq (b : Byte) : ∃! wa : Bool × Addr, b = wa.2.cons wa.1 := by
  refine ⟨(b.msb, addressOf b), (BitVec.cons_msb_setWidth b).symm, ?_⟩
  rintro ⟨w, a⟩ rfl
  ext1
  · exact BitVec.msb_cons.symm
  · exact BitVec.setWidth_cons.symm

/-- A first byte of either kind differs from the other in bit 7 alone (30_encoding.md R82). -/
theorem writeFirstByte_xor_readFirstByte (a : Addr) : writeFirstByte a ^^^ readFirstByte a = 0x80 := by
  rw [writeFirstByte_eq_cons, readFirstByte_eq_cons, BitVec.cons_xor_cons, BitVec.xor_self]
  rfl

/-- Masking removes the write flag (30_encoding.md R83). -/
theorem writeFirstByte_and_addressMask (a : Addr) :
    writeFirstByte a &&& Literal.addressMask = readFirstByte a := by
  rw [writeFirstByte_eq_cons, readFirstByte_eq_cons]
  have hmask : Literal.addressMask = BitVec.cons false (BitVec.allOnes 7) := rfl
  rw [hmask, BitVec.cons_and_cons, BitVec.and_allOnes, Bool.and_false]

theorem toNat_writeFirstByte (a : Addr) : (writeFirstByte a).toNat = 128 + a.toNat := by
  rw [writeFirstByte_eq_cons, BitVec.toNat_cons']
  rfl

theorem toNat_readFirstByte (a : Addr) : (readFirstByte a).toNat = a.toNat := by
  rw [readFirstByte_eq_cons, BitVec.toNat_cons']
  exact Nat.zero_add _

/-- Masking leaves an address as it is (30_encoding.md R83). -/
theorem readFirstByte_eq_setWidth (a : Addr) : readFirstByte a = a.setWidth 8 := by
  apply BitVec.eq_of_toNat_eq
  rw [toNat_readFirstByte, BitVec.toNat_setWidth_of_le (by decide)]

/-- Settles O4: a first byte is the flag in front of the address, and a byte is that in one way. -/
theorem framingKeepsAddressAndFlag : Obligations.FramingKeepsAddressAndFlag := by
  refine ⟨fun a => ?_, fun b => ?_⟩
  · have hw := toNat_writeFirstByte a
    have hr := toNat_readFirstByte a
    exact ⟨rfl, rfl, writeFirstByte_eq_cons a, readFirstByte_eq_cons a,
      writeFirstByte_xor_readFirstByte a, writeFirstByte_and_addressMask a, readFirstByte_eq_setWidth a,
      by omega, by omega, hw, hr⟩
  · simpa only [ite_firstByte_eq_cons] using existsUnique_cons_eq b

end Sys2Proof.Machine
end

section
/-! PROOF. What the operations of the CORE send (30_encoding.md R84, R86): the frames a trace
holds before and after each of them, and that every step sends only legal frames. -/

namespace Sys2Proof.Machine

/-! The frames of a trace, event by event. -/

@[simp] theorem framesSent_append (es es' : List Event) :
    framesSent (es ++ es') = framesSent es ++ framesSent es' := by
  induction es with
  | nil => rfl
  | cons e es ih => cases e <;> simp [framesSent, ih]

@[simp] theorem framesSent_nil : framesSent [] = [] := rfl

section Cons

variable (es : List Event)

@[simp] theorem framesSent_line (id : LineId) (l : Level) : framesSent (.line id l :: es) = framesSent es := rfl
@[simp] theorem framesSent_wait (n : Nat) : framesSent (.wait n :: es) = framesSent es := rfl
@[simp] theorem framesSent_resp (st : Status) (d : Option Byte) : framesSent (.resp st d :: es) = framesSent es := rfl
@[simp] theorem framesSent_xchg (t0 t1 r0 r1 : Byte) :
    framesSent (.xchg t0 t1 r0 r1 :: es) = (t0, t1) :: framesSent es := rfl
@[simp] theorem framesSent_xchgFail (t0 t1 : Byte) :
    framesSent (.xchgFail t0 t1 :: es) = (t0, t1) :: framesSent es := rfl

end Cons

/-- Whether a trace is legal is seen from the frames it sends. -/
theorem framesLegal_congr {es es' : List Event} (h : framesSent es = framesSent es') :
    framesLegal es = framesLegal es' := by
  simp only [framesLegal, h]

/-- A trace stays legal by a response. -/
theorem framesLegal_respond (st : Status) (d : Option Byte) (s : State) :
    framesLegal (respond st d s).trace = framesLegal s.trace :=
  framesLegal_congr (by simp)

/-- A trace stays legal by an exchange of a legal frame, whatever its answer. -/
theorem framesLegal_of_exchange {es es' : List Event} {t0 t1 : Byte} {r : Answer}
    (h : framesSent es' = framesSent es ++ if r = .never then [] else [(t0, t1)])
    (hf : legalFrame t0 t1 = true) (hl : framesLegal es = true) : framesLegal es' = true := by
  unfold framesLegal at hl ⊢
  rw [h, List.all_append, hl]
  split <;> simp [hf]

/-! Which frames are legal (30_encoding.md R84). -/

theorem legalFrame_writeFirstByte (a : Addr) (v : Byte) : legalFrame (writeFirstByte a) v = true := by
  simp [legalFrame]

theorem legalFrame_filler (t0 : Byte) : legalFrame t0 Literal.filler = true := by
  simp [legalFrame]

theorem legalFrame_commandFrame (p : Params) (c : Command) :
    legalFrame (commandFrame p c).1 (commandFrame p c).2 = true := by
  cases c with
  | bringup => exact legalFrame_filler _
  | read a => exact legalFrame_filler _
  | write a v => exact legalFrame_writeFirstByte a v

/-! What an exchange and a transaction send: their frame, unless they hang (40_register_access.md
R100; 60_exceptions.md R154). -/

theorem framesSent_exchangeWith (r : Answer) (t0 t1 : Byte) (s : State) :
    framesSent (exchangeWith r t0 t1 s).trace = framesSent s.trace ++ if r = .never then [] else [(t0, t1)] := by
  cases r <;> simp [exchangeWith]

theorem framesSent_txnWith (r : Answer) (t0 t1 : Byte) (s : State) :
    framesSent (txnWith r t0 t1 s).trace = framesSent s.trace ++ if r = .never then [] else [(t0, t1)] := by
  cases r <;> simp [txnWith]

theorem framesLegal_exchangeWith (r : Answer) {t0 t1 : Byte} {s : State} (hf : legalFrame t0 t1 = true)
    (hl : framesLegal s.trace = true) : framesLegal (exchangeWith r t0 t1 s).trace = true :=
  framesLegal_of_exchange (framesSent_exchangeWith r t0 t1 s) hf hl

theorem framesLegal_txnWith (r : Answer) {t0 t1 : Byte} {s : State} (hf : legalFrame t0 t1 = true)
    (hl : framesLegal s.trace = true) : framesLegal (txnWith r t0 t1 s).trace = true :=
  framesLegal_of_exchange (framesSent_txnWith r t0 t1 s) hf hl

/-! The end of a command, the edges of a window and the reset pulse send nothing. -/

@[simp] theorem framesSent_finishRead (r : Answer) (s : State) :
    framesSent (finishRead r s).trace = framesSent s.trace := by
  cases r <;> simp [finishRead]

@[simp] theorem framesSent_finishWrite (r : Answer) (s : State) :
    framesSent (finishWrite r s).trace = framesSent s.trace := by
  cases r <;> simp [finishWrite]

@[simp] theorem framesSent_judge (s : State) : framesSent (judge s).trace = framesSent s.trace := by
  obtain ⟨-, h⟩ | ⟨-, h⟩ := judge_cases s <;> simp [h]

@[simp] theorem framesSent_finishBringup (r : Answer) (s : State) :
    framesSent (finishBringup r s).trace = framesSent s.trace := by
  cases r <;> simp [finishBringup]

@[simp] theorem framesSent_finishCommand (c : Command) (s : State) :
    framesSent (finishCommand c s).trace = framesSent s.trace := by
  cases c <;> simp [finishCommand]

theorem framesSent_openWindow (t0 t1 : Byte) (s : State) :
    framesSent (openWindow t0 t1 s).trace = framesSent s.trace := by
  simp

theorem framesSent_closeWindow (s : State) : framesSent (closeWindow s).trace = framesSent s.trace := by
  simp

theorem framesSent_resetPulse (s : State) : framesSent (resetPulse s).trace = framesSent s.trace := by
  simp

/-- Every instruction sends at most its own legal frame. -/
theorem framesLegal_exec {i : Instr} {s t : State} (hl : framesLegal s.trace = true)
    (h : exec i s = .next t) : framesLegal t.trace = true := by
  cases i with
  | read a =>
    obtain ⟨-, rfl⟩ | ⟨-, -, rfl⟩ | ⟨-, -, -, rfl⟩ := execRead_next h
    · exact hl
    · exact (framesLegal_respond _ _ _).trans hl
    · rw [framesLegal_congr (framesSent_finishRead _ _)]
      exact framesLegal_txnWith _ (legalFrame_filler _) hl
  | write a v =>
    obtain ⟨-, rfl⟩ | ⟨-, -, rfl⟩ | ⟨-, -, -, rfl⟩ := execWrite_next h
    · exact hl
    · exact (framesLegal_respond _ _ _).trans hl
    · rw [framesLegal_congr (framesSent_finishWrite _ _)]
      exact framesLegal_txnWith _ (legalFrame_writeFirstByte a v) hl
  | bringup =>
    obtain ⟨-, rfl⟩ | ⟨-, -, rfl⟩ | ⟨-, -, -, r, -, rfl⟩ := execBringup_next h
    · exact hl
    · exact (framesLegal_respond _ _ _).trans hl
    · rw [framesLegal_congr (framesSent_finishBringup _ _)]
      refine framesLegal_txnWith _ (legalFrame_filler _) ?_
      exact (framesLegal_congr (framesSent_resetPulse _)).trans hl
  | reserved =>
    obtain ⟨-, rfl⟩ | ⟨-, rfl⟩ := execReserved_next h
    · exact hl
    · exact (framesLegal_respond _ _ _).trans hl
  | writeFrame a v =>
    obtain ⟨-, rfl⟩ := execWriteFrame_next h
    exact framesLegal_txnWith _ (legalFrame_writeFirstByte a v) hl
  | readFrame a =>
    obtain ⟨-, rfl⟩ := execReadFrame_next h
    exact framesLegal_txnWith _ (legalFrame_filler _) hl

/-! The phases of a command. An open window has its command's frame latched (`InProgress.latched`),
and that is all a phase needs to send only legal frames. -/

/-- The frame of the command in progress is latched while its exchange is to come
(40_register_access.md R100): the part of `Safe` that says what the exchange will send. -/
def FrameLatched (s : State) : Prop :=
  s.txn = .selected → ∀ c, s.cur = some c →
    s.tx0 = some (commandFrame s.params c).1 ∧ s.tx1 = some (commandFrame s.params c).2

theorem Safe.frameLatched {s : State} (h : Safe s) : FrameLatched s :=
  fun hx => h.inProgress.latched (by simp [hx])

theorem frameLatched_of_txn {s : State} (h : s.txn ≠ .selected) : FrameLatched s :=
  fun hx => absurd hx h

theorem frameLatched_exchangeWith (r : Answer) (t0 t1 : Byte) {s : State} (h : FrameLatched s) :
    FrameLatched (exchangeWith r t0 t1 s) := by
  cases r with
  | ok r0 r1 => exact frameLatched_of_txn (by simp)
  | fail => exact frameLatched_of_txn (by simp)
  | never => exact h

theorem frameLatched_openWindow {c : Command} {s : State} (hc : s.cur = some c) :
    FrameLatched (openWindow (commandFrame s.params c).1 (commandFrame s.params c).2 s) := by
  rintro - c' hc'
  obtain rfl : c = c' := Option.some.inj (hc.symm.trans hc')
  exact ⟨rfl, rfl⟩

/-- A phase outside a transaction opens the window of its command's frame, or leaves the window
alone and sends nothing (40_register_access.md R104, R108; 41_sequencer.md R128). -/
theorem begin_cases (c : Command) (s : State) :
    begin c s = openWindow (commandFrame s.params c).1 (commandFrame s.params c).2 s ∨
      ((begin c s).txn = s.txn ∧ framesSent (begin c s).trace = framesSent s.trace) := by
  cases c with
  | read a =>
    simp only [begin]
    split
    · exact .inl rfl
    · exact .inr (by simp)
  | write a v =>
    simp only [begin]
    split
    · exact .inl rfl
    · exact .inr (by simp)
  | bringup =>
    simp only [begin]
    split
    case h_5 => exact .inl rfl
    all_goals exact .inr (by simp [enterHeldHigh, enterAsserted, holdHigh, enterSettling, holdLow,
      enterVerify, holdSettle])

/-! The end of a command leaves the window as it was. -/

@[simp] theorem finishRead_txn (r : Answer) (s : State) : (finishRead r s).txn = s.txn := by
  cases r <;> rfl

@[simp] theorem finishWrite_txn (r : Answer) (s : State) : (finishWrite r s).txn = s.txn := by
  cases r <;> rfl

@[simp] theorem judge_txn (s : State) : (judge s).txn = s.txn := by
  obtain ⟨-, h⟩ | ⟨-, h⟩ := judge_cases s <;> simp [h]

@[simp] theorem finishBringup_txn (r : Answer) (s : State) : (finishBringup r s).txn = s.txn := by
  cases r <;> simp [finishBringup]

@[simp] theorem finishCommand_txn (c : Command) (s : State) : (finishCommand c s).txn = s.txn := by
  cases c <;> simp [finishCommand]

/-- A phase of a command keeps its frame latched and sends only legal frames. -/
theorem advance_sendsLegal {s t : State} (hs : FrameLatched s ∧ framesLegal s.trace = true)
    (h : advance s = .next t) : FrameLatched t ∧ framesLegal t.trace = true := by
  obtain ⟨hlat, hl⟩ := hs
  obtain ⟨-, rfl⟩ | ⟨c, hc, ⟨hx, rfl⟩ | ⟨hx, rfl⟩ | ⟨hx, rfl⟩⟩ := advance_next h
  · exact ⟨hlat, hl⟩
  · obtain hb | ⟨hb, hf⟩ := begin_cases c s
    · rw [hb]
      exact ⟨frameLatched_openWindow hc, (framesLegal_congr (framesSent_openWindow _ _ s)).trans hl⟩
    · exact ⟨frameLatched_of_txn (by simp [hb, hx]), (framesLegal_congr hf).trans hl⟩
  · obtain ⟨h0, h1⟩ := hlat hx c hc
    rw [exchangeLatched_eq h0 h1]
    exact ⟨frameLatched_exchangeWith _ _ _ hlat,
      framesLegal_exchangeWith _ (legalFrame_commandFrame _ c) hl⟩
  · exact ⟨frameLatched_of_txn (by simp),
      (framesLegal_congr ((framesSent_finishCommand c _).trans (framesSent_closeWindow s))).trans hl⟩

/-- A step sends only legal frames (30_encoding.md R84). -/
theorem framesLegal_step {s t : State} (hlat : FrameLatched s) (hl : framesLegal s.trace = true)
    (h : step s = .next t) : framesLegal t.trace = true := by
  obtain ⟨-, ⟨rest, -, hr⟩ | ⟨-, ⟨c, i, u, -, -, hu, rfl⟩ | ⟨c, -, -, hr⟩ | ⟨w, rest, -, -, hw⟩ | ⟨-, -, rfl⟩⟩⟩ :=
    step_next h
  · obtain ⟨-, rfl⟩ | ⟨-, rfl⟩ := takeReset_next hr <;> rfl
  · rw [framesLegal_congr (framesSent_finishCommand c u)]
    exact framesLegal_exec hl hu
  · exact (resume_keeps (fun _ _ => advance_sendsLegal) longestCommand ⟨hlat, hl⟩ hr).2
  · exact framesLegal_exec (s := { s with host := rest }) hl hw
  · exact hl

/-! What a performed register command sends. -/

/-- `READ` through the open gate is one transaction and its end (40_register_access.md R104). -/
theorem execRead_ready {a : Addr} {r : Answer} {s : State} (h : Accepts s) (hr : s.seq = .ready)
    (ha : Answers s (readFirstByte a) Literal.filler r) :
    exec (.read a) s = .next (finishRead r
      (txnWith r (readFirstByte a) Literal.filler { s with cur := some (.read a) })) := by
  rw [exec, execRead, accepting_eq h, if_pos (by simpa [ready] using hr)]
  exact transaction_eq (s := { s with cur := some (.read a) }) h.closed ha finishRead

/-- `WRITE` through the open gate is one transaction and its end (40_register_access.md R108). -/
theorem execWrite_ready {a : Addr} {v : Byte} {r : Answer} {s : State} (h : Accepts s) (hr : s.seq = .ready)
    (ha : Answers s (writeFirstByte a) v r) :
    exec (.write a v) s = .next (finishWrite r
      (txnWith r (writeFirstByte a) v { s with cur := some (.write a v) })) := by
  rw [exec, execWrite, accepting_eq h, if_pos (by simpa [ready] using hr)]
  exact transaction_eq (s := { s with cur := some (.write a v) }) h.closed ha finishWrite

/-- Settles O32: an open window has its command's frame latched, every command's frame is legal,
and nothing but a transaction sends a frame. -/
theorem stepSendsOnlyLegalFrames : Obligations.StepSendsOnlyLegalFrames := by
  refine ⟨fun s t hs hl h => framesLegal_step hs.frameLatched hl h, fun a v r0 r1 s hs hr => ⟨?_, ?_⟩⟩
  · intro ha
    exact ⟨_, execWrite_ready hs hr ha, by simp [framesSent_txnWith]⟩
  · intro ha
    exact ⟨_, execRead_ready hs hr ha, by simp [framesSent_txnWith, Literal.filler]⟩

end Sys2Proof.Machine
end

section
/-! PROOF. The chip-select discipline (40_register_access.md R101): what each operation of the CORE
adds to the windows of the trace, and that every step keeps the pattern and leaves a window open
only in a hang. -/

namespace Sys2Proof.Machine

/-! The window pattern, event by event. -/

/-- Chip-select released is not chip-select asserted (00_scope.md section 7). -/
@[simp] theorem csDeasserted_ne_csActive (p : Params) : csDeasserted p ≠ p.csActive := by
  unfold csDeasserted
  cases p.csActive <;> decide

section Scan

variable (active : Level) (p : TxnPhase) (es : List Event)

theorem scanWindows_cons (e : Event) :
    scanWindows active p (e :: es) = (scanWindows active p [e]).bind (scanWindows active · es) := by
  cases e with
  | line id l =>
    cases id with
    | cs => by_cases h : l = active <;> cases p <;> simp [scanWindows, h]
    | rst => simp [scanWindows]
  | xchg t0 t1 r0 r1 => cases p <;> simp [scanWindows]
  | xchgFail t0 t1 => cases p <;> simp [scanWindows]
  | wait n => simp [scanWindows]
  | resp st d => simp [scanWindows]

theorem scanWindows_append (es' : List Event) :
    scanWindows active p (es ++ es') = (scanWindows active p es).bind (scanWindows active · es') := by
  induction es generalizing p with
  | nil => rfl
  | cons e es ih =>
    rw [List.cons_append, scanWindows_cons, scanWindows_cons active p es, Option.bind_assoc]
    simp only [ih]

end Scan

section Operations

variable {s : State}

/-- Events that lead the scan from `TXN` before to `TXN` after keep the discipline. -/
theorem Disciplined.extend {t : State} {es : List Event} (hs : Disciplined s) (hp : t.params = s.params)
    (ht : t.trace = s.trace ++ es) (hes : scanWindows s.params.csActive s.txn es = some t.txn) : Disciplined t := by
  unfold Disciplined at hs ⊢
  rw [hp, ht, scanWindows_append, hs]
  exact hes

/-! Each edge of a window in its place (40_register_access.md R100). -/

theorem Disciplined.openWindow (t0 t1 : Byte) (hs : Disciplined s) (hx : s.txn = .none) :
    Disciplined (openWindow t0 t1 s) :=
  hs.extend rfl (openWindow_trace s t0 t1) (by simp [scanWindows, hx, csAsserted])

theorem Disciplined.exchangeWith (r : Answer) (t0 t1 : Byte) (hs : Disciplined s) (hx : s.txn = .selected) :
    Disciplined (exchangeWith r t0 t1 s) := by
  cases r with
  | ok r0 r1 => exact hs.extend rfl (exchangeWith_ok_trace s r0 r1 t0 t1) (by simp [scanWindows, hx])
  | fail => exact hs.extend rfl (exchangeWith_fail_trace s t0 t1) (by simp [scanWindows, hx])
  | never => exact hs

theorem Disciplined.closeWindow (hs : Disciplined s) (hx : s.txn = .exchanged) : Disciplined (closeWindow s) :=
  hs.extend rfl (closeWindow_trace s) (by simp [scanWindows, hx])

/-- A transaction is a whole window, or an open one where it hangs (60_exceptions.md R154). -/
theorem Disciplined.txnWith (r : Answer) (t0 t1 : Byte) (hs : Disciplined s) (hx : s.txn = .none) :
    Disciplined (txnWith r t0 t1 s) := by
  have ho : Disciplined (Machine.openWindow t0 t1 s) := hs.openWindow t0 t1 hx
  cases r with
  | ok r0 r1 => exact (ho.exchangeWith (.ok r0 r1) t0 t1 rfl).closeWindow rfl
  | fail => exact (ho.exchangeWith .fail t0 t1 rfl).closeWindow rfl
  | never => exact ho

/-! Responses, holds and the reset line stand outside the pattern. -/

theorem Disciplined.respond (st : Status) (d : Option Byte) (hs : Disciplined s) :
    Disciplined (respond st d s) :=
  hs.extend rfl (respond_trace s st d) (by simp [scanWindows])

theorem Disciplined.delay (n : Nat) (hs : Disciplined s) : Disciplined (delay n s) :=
  hs.extend rfl (delay_trace s n) (by simp [scanWindows])

theorem Disciplined.setLine_rst (l : Level) (hs : Disciplined s) : Disciplined (setLine .rst l s) :=
  hs.extend rfl (setLine_rst_trace s l) (by simp [scanWindows])

theorem Disciplined.resetPulse (hs : Disciplined s) : Disciplined (resetPulse s) :=
  (((((hs.setLine_rst .high).delay _).setLine_rst .low).delay _).setLine_rst .high).delay _

/-- A command that hangs is left as it was; every other end of a command is one response, given
with the window and the trace as they were (30_encoding.md R91; 60_exceptions.md R154). -/
theorem finishCommand_cases (c : Command) (s : State) :
    finishCommand c s = s ∨ ∃ st d u, finishCommand c s = respond st d u ∧
      u.params = s.params ∧ u.txn = s.txn ∧ u.trace = s.trace := by
  cases c with
  | read a =>
    obtain ⟨_, _, -, h⟩ | ⟨-, h⟩ | ⟨-, h⟩ := finishRead_cases (lastAnswer s) s
    · exact .inr ⟨_, _, takeResult s, h, rfl, rfl, rfl⟩
    · exact .inr ⟨_, _, takeResult s, h, rfl, rfl, rfl⟩
    · exact .inl h
  | write a v =>
    obtain ⟨_, _, -, h⟩ | ⟨-, h⟩ | ⟨-, h⟩ := finishWrite_cases (lastAnswer s) s
    · exact .inr ⟨_, _, takeResult s, h, rfl, rfl, rfl⟩
    · exact .inr ⟨_, _, takeResult s, h, rfl, rfl, rfl⟩
    · exact .inl h
  | bringup =>
    obtain ⟨_, _, -, h⟩ | ⟨-, h⟩ | ⟨-, h⟩ := finishBringup_cases (lastAnswer s) s
    · obtain ⟨-, hj⟩ | ⟨-, hj⟩ := judge_cases (takeResult s)
      · exact .inr ⟨_, _, _, h.trans hj, rfl, rfl, rfl⟩
      · exact .inr ⟨_, _, _, h.trans hj, rfl, rfl, rfl⟩
    · exact .inr ⟨_, _, _, h, rfl, rfl, rfl⟩
    · exact .inl h

theorem Disciplined.finishCommand (c : Command) (hs : Disciplined s) : Disciplined (finishCommand c s) := by
  obtain h | ⟨st, d, u, h, hp, hx, ht⟩ := finishCommand_cases c s
  · rwa [h]
  · have hu : Disciplined u := by rwa [Disciplined, hp, ht, hx]
    exact h ▸ hu.respond st d

/-! The phases of a command. -/

theorem Disciplined.begin (c : Command) (hs : Disciplined s) (hx : s.txn = .none) :
    Disciplined (begin c s) := by
  cases c with
  | read a =>
    simp only [Machine.begin]
    split
    · exact hs.openWindow _ _ hx
    · exact hs.respond _ _
  | write a v =>
    simp only [Machine.begin]
    split
    · exact hs.openWindow _ _ hx
    · exact hs.respond _ _
  | bringup =>
    unfold Machine.begin
    cases s.seq with
    | idle => exact hs.setLine_rst .high
    | heldHigh => exact (hs.delay _).setLine_rst .low
    | asserted => exact (hs.delay _).setLine_rst .high
    | settling => exact hs.delay _
    | verify => exact hs.openWindow _ _ hx
    | ready => exact hs.respond _ _
    | fatal => exact hs.respond _ _

theorem Disciplined.exchangeLatched (t0 t1 : Byte) (hs : Disciplined s) (hx : s.txn = .selected) :
    Disciplined (exchangeLatched t0 t1 s) :=
  Disciplined.exchangeWith (s := latchFrame t0 t1 s) _ _ _ hs hx

theorem disciplined_advance {t : State} (hs : Disciplined s) (h : advance s = .next t) : Disciplined t := by
  obtain ⟨-, rfl⟩ | ⟨c, -, ⟨hx, rfl⟩ | ⟨hx, rfl⟩ | ⟨hx, rfl⟩⟩ := advance_next h
  · exact hs
  · exact hs.begin c hx
  · exact hs.exchangeLatched _ _ hx
  · exact (hs.closeWindow hx).finishCommand c

end Operations

/-! The commands of the host: each is a word not taken, a refusal, or one transaction. -/

/-- The state in which the transaction of an accepted command begins: `BRINGUP` has driven the
reset pulse before it (41_sequencer.md R128). -/
def beforeTransaction (c : Command) (s : State) : State :=
  match c with
  | .bringup => resetPulse { s with cur := some .bringup }
  | .read a => { s with cur := some (.read a) }
  | .write a v => { s with cur := some (.write a v) }

/-- `Txn` of command `c` as the environment answers it, and what the command makes of it. -/
def runTransaction (c : Command) (s : State) : State :=
  finishCommand c (txnWith (s.env.answer (commandFrame s.params c).1 (commandFrame s.params c).2)
    (commandFrame s.params c).1 (commandFrame s.params c).2 s)

/-- What a command of the host can do (40_register_access.md R104, R108; 41_sequencer.md R128, R131, R135). -/
theorem exec_instr_next {c : Command} {s t : State} (h : exec c.instr s = .next t) :
    (s.cur ≠ none ∧ t = s) ∨
      (s.cur = none ∧ ∃ st, t = respond st none { s with cur := some c }) ∨
      (s.cur = none ∧ s.txn = .none ∧ t = runTransaction c (beforeTransaction c s)) := by
  cases c with
  | read a =>
    obtain h' | ⟨hc, -, rfl⟩ | ⟨hc, -, hx, rfl⟩ := execRead_next h
    · exact .inl h'
    · exact .inr (.inl ⟨hc, _, rfl⟩)
    · exact .inr (.inr ⟨hc, hx, by rw [runTransaction, finishCommand, lastAnswer_txnWith]; rfl⟩)
  | write a v =>
    obtain h' | ⟨hc, -, rfl⟩ | ⟨hc, -, hx, rfl⟩ := execWrite_next h
    · exact .inl h'
    · exact .inr (.inl ⟨hc, _, rfl⟩)
    · exact .inr (.inr ⟨hc, hx, by rw [runTransaction, finishCommand, lastAnswer_txnWith]; rfl⟩)
  | bringup =>
    obtain h' | ⟨hc, -, rfl⟩ | ⟨hc, -, hx, r, rfl, rfl⟩ := execBringup_next h
    · exact .inl h'
    · exact .inr (.inl ⟨hc, _, rfl⟩)
    · exact .inr (.inr ⟨hc, hx, by rw [runTransaction, finishCommand, lastAnswer_txnWith]; rfl⟩)

/-- A command word is the reserved word or a command (30_encoding.md R90). -/
theorem decodeCommand_cases (w : CommandWord) :
    decodeCommand w = .reserved ∨ ∃ c : Command, decodeCommand w = c.instr := by
  unfold decodeCommand
  split
  · exact .inr ⟨.read _, rfl⟩
  · exact .inr ⟨.write _ _, rfl⟩
  · exact .inr ⟨.bringup, rfl⟩
  · exact .inl rfl

/-! Every step keeps the discipline. -/

theorem Disciplined.beforeTransaction {s : State} (c : Command) (hs : Disciplined s) :
    Disciplined (beforeTransaction c s) := by
  cases c with
  | bringup => exact Disciplined.resetPulse (s := { s with cur := some .bringup }) hs
  | read a => exact hs
  | write a v => exact hs

@[simp] theorem beforeTransaction_txn (c : Command) (s : State) : (beforeTransaction c s).txn = s.txn := by
  cases c <;> rfl

@[simp] theorem beforeTransaction_cur (c : Command) (s : State) : (beforeTransaction c s).cur = some c := by
  cases c <;> rfl

theorem disciplined_exec_instr {c : Command} {s t : State} (hs : Disciplined s)
    (h : exec c.instr s = .next t) : Disciplined t := by
  obtain ⟨-, rfl⟩ | ⟨-, st, rfl⟩ | ⟨-, hx, rfl⟩ := exec_instr_next h
  · exact hs
  · exact Disciplined.respond st none (s := { s with cur := some c }) hs
  · exact ((hs.beforeTransaction c).txnWith _ _ _ (by simpa using hx)).finishCommand c

theorem disciplined_execReserved {s t : State} (hs : Disciplined s) (h : execReserved s = .next t) :
    Disciplined t := by
  obtain ⟨-, rfl⟩ | ⟨-, rfl⟩ := execReserved_next h
  · exact hs
  · exact hs.respond _ _

theorem disciplined_exec {i : Instr} {s t : State} (hs : Disciplined s) (h : exec i s = .next t) :
    Disciplined t := by
  cases i with
  | read a => exact disciplined_exec_instr (c := .read a) hs h
  | write a v => exact disciplined_exec_instr (c := .write a v) hs h
  | bringup => exact disciplined_exec_instr (c := .bringup) hs h
  | reserved => exact disciplined_execReserved hs h
  | writeFrame a v =>
    obtain ⟨hx, rfl⟩ := execWriteFrame_next h
    exact hs.txnWith _ _ _ hx
  | readFrame a =>
    obtain ⟨hx, rfl⟩ := execReadFrame_next h
    exact hs.txnWith _ _ _ hx

/-- A reset of the CORE starts an empty trace with no window open (70_reset_and_hazards.md R180). -/
theorem disciplined_coreReset (s : State) : Disciplined (coreReset s) := rfl

theorem disciplined_step {s t : State} (hs : Disciplined s) (h : step s = .next t) : Disciplined t := by
  obtain ⟨-, ⟨rest, -, hr⟩ | ⟨-, ⟨c, i, u, -, -, hu, rfl⟩ | ⟨c, -, -, hr⟩ | ⟨w, rest, -, -, hw⟩ | ⟨-, -, rfl⟩⟩⟩ :=
    step_next h
  · obtain ⟨-, rfl⟩ | ⟨-, rfl⟩ := takeReset_next hr
    · exact disciplined_coreReset _
    · exact disciplined_coreReset _
  · exact (disciplined_exec hs hu).finishCommand c
  · exact resume_keeps (fun _ _ => disciplined_advance) longestCommand hs hr
  · exact disciplined_exec (s := { s with host := rest }) hs hw
  · exact hs

/-! A window that a step leaves open is that of a hang (60_exceptions.md R154). -/

/-- A command whose exchange has not returned stays inside its window (60_exceptions.md R154). -/
theorem finishCommand_openWindow (c : Command) (t0 t1 : Byte) (s : State) :
    finishCommand c (openWindow t0 t1 s) = openWindow t0 t1 s := by
  cases c <;> rfl

/-- A transaction of a command in progress closes its window, or the command hangs in it. -/
theorem runTransaction_closed_or_hung {c d : Command} {s : State} (hc : s.cur = some d) :
    (runTransaction c s).txn = .none ∨ hung (runTransaction c s) = true := by
  unfold runTransaction
  cases hr : s.env.answer (commandFrame s.params c).1 (commandFrame s.params c).2 with
  | ok r0 r1 => exact .inl (by simp [txnWith])
  | fail => exact .inl (by simp [txnWith])
  | never => exact .inr (by simp [txnWith, finishCommand_openWindow, hung, hc, hr])

/-- A word taken with no window open leaves none open, but in a hang. -/
theorem exec_decodeCommand_closed_or_hung {w : CommandWord} {s t : State} (hx : s.txn = .none)
    (h : exec (decodeCommand w) s = .next t) : t.txn = .none ∨ hung t = true := by
  obtain hw | ⟨c, hw⟩ := decodeCommand_cases w
  · rw [hw] at h
    obtain ⟨-, rfl⟩ | ⟨-, rfl⟩ := execReserved_next h
    · exact .inl hx
    · exact .inl hx
  · rw [hw] at h
    obtain ⟨-, rfl⟩ | ⟨-, st, rfl⟩ | ⟨-, -, rfl⟩ := exec_instr_next h
    · exact .inl hx
    · exact .inl hx
    · exact runTransaction_closed_or_hung (beforeTransaction_cur c s)

/-- A step of a free CORE with no window open leaves none open, but in a hang. -/
theorem step_closed_or_hung {s t : State} (hc : s.cur = none) (hx : s.txn = .none) (h : step s = .next t) :
    t.txn = .none ∨ hung t = true := by
  obtain ⟨-, ⟨rest, -, hr⟩ | ⟨-, ⟨c, _, _, hc', -⟩ | ⟨c, hc', -⟩ | ⟨w, rest, -, -, hw⟩ | ⟨-, -, rfl⟩⟩⟩ :=
    step_next h
  · obtain ⟨-, rfl⟩ | ⟨-, rfl⟩ := takeReset_next hr
    · exact .inl rfl
    · exact .inl rfl
  · simp [hc] at hc'
  · simp [hc] at hc'
  · exact exec_decodeCommand_closed_or_hung (s := { s with host := rest }) hx hw
  · exact .inl hx

/-- Settles O31: every operation adds to the trace the edge of a window that `TXN` allows, and a
command that does not hang closes the window it opened. -/
theorem stepKeepsChipSelectDiscipline : Obligations.StepKeepsChipSelectDiscipline := by
  refine ⟨fun s t hs h => disciplined_step hs h, fun s t hs h hc hx => ?_⟩
  obtain ⟨hclosed, -⟩ := hs.inv.atRest hc
  exact (step_closed_or_hung hc hclosed h).resolve_left hx

end Sys2Proof.Machine
end

section
/-! PROOF. What a performed register command does (40_register_access.md R104 to R114): one window,
one frame, and the response its two received bytes give. -/

namespace Sys2Proof.Machine

/-! Windows and responses of a trace, part by part. -/

@[simp] theorem windowsOpened_append (active : Level) (es es' : List Event) :
    windowsOpened active (es ++ es') = windowsOpened active es + windowsOpened active es' :=
  List.count_append

@[simp] theorem responses_append (es es' : List Event) :
    responses (es ++ es') = responses es ++ responses es' := by
  induction es with
  | nil => rfl
  | cons e es ih => cases e <;> simp [responses, ih]

/-- Whatever the answer, a transaction asserts chip-select once (40_register_access.md R100). -/
theorem windowsOpened_txnWith (r : Answer) (t0 t1 : Byte) (s : State) :
    windowsOpened (csAsserted s.params) (txnWith r t0 t1 s).trace =
      windowsOpened (csAsserted s.params) s.trace + 1 := by
  cases r <;> simp [txnWith, windowsOpened, csAsserted]

theorem responses_txnWith (r : Answer) (t0 t1 : Byte) (s : State) :
    responses (txnWith r t0 t1 s).trace = responses s.trace := by
  cases r <;> simp [txnWith, responses]

/-- The end of a command opens no window. -/
theorem windowsOpened_finishCommand (active : Level) (c : Command) (s : State) :
    windowsOpened active (finishCommand c s).trace = windowsOpened active s.trace := by
  obtain h | ⟨st, d, u, h, -, -, ht⟩ := finishCommand_cases c s
  · rw [h]
  · rw [h, respond_trace, ht, windowsOpened_append]
    rfl

/-- A transaction that returned bytes gives `READ` the second of them (40_register_access.md R111). -/
theorem responses_finishRead_ok (r0 r1 t0 t1 : Byte) (s : State) :
    responses (finishRead (.ok r0 r1) (txnWith (.ok r0 r1) t0 t1 s)).trace = responses s.trace ++ [(.ok, some r1)] := by
  have hrx : (txnWith (.ok r0 r1) t0 t1 s).rx1 = some r1 := rfl
  simp [finishRead, hrx, responses_txnWith, responses]

/-- `WRITE` drops both (40_register_access.md R111). -/
theorem responses_finishWrite_ok (r0 r1 t0 t1 : Byte) (s : State) :
    responses (finishWrite (.ok r0 r1) (txnWith (.ok r0 r1) t0 t1 s)).trace = responses s.trace ++ [(.ok, none)] := by
  simp [finishWrite, responses_txnWith, responses]

/-- Settles O25: the response is told from the second byte, and the first goes to `RX0` alone. -/
theorem readDependsOnSecondByteOnly : Obligations.ReadDependsOnSecondByteOnly := by
  intro a s e e' r0 r0' r1 hs hr he he'
  have hacc (e : Env) : Accepts { s with env := e } := ⟨hs.legal, hs.free, hs.closed⟩
  exact ⟨_, _, execRead_ready (hacc e) hr he, execRead_ready (hacc e') hr he',
    by rw [responses_finishRead_ok], by rw [responses_finishRead_ok, responses_finishRead_ok], rfl⟩

/-- A register command through the open gate is one transaction and its end (40_register_access.md
R104, R108). -/
theorem exec_instr_ready {c : Command} {r : Answer} {s : State} (hb : c ≠ .bringup) (h : Accepts s)
    (hr : s.seq = .ready) (ha : Answers s (commandFrame s.params c).1 (commandFrame s.params c).2 r) :
    exec c.instr s = .next (finishCommand c
      (txnWith r (commandFrame s.params c).1 (commandFrame s.params c).2 { s with cur := some c })) := by
  cases c with
  | bringup => exact absurd rfl hb
  | read a =>
    rw [finishCommand, lastAnswer_txnWith]
    exact execRead_ready h hr ha
  | write a v =>
    rw [finishCommand, lastAnswer_txnWith]
    exact execWrite_ready h hr ha

/-- Settles O40: the one transaction opens one window and sends its frame unless it hangs, and the
end of the command adds the response alone. -/
theorem performedCommandIsOneTransaction : Obligations.PerformedCommandIsOneTransaction := by
  intro c s hb hs hr
  obtain ⟨r, ha⟩ : ∃ r, Answers s (commandFrame s.params c).1 (commandFrame s.params c).2 r := ⟨_, rfl⟩
  refine ⟨_, exec_instr_ready hb hs hr ha, ?_, fun hn => ?_, fun r0 r1 hok => ?_⟩
  · rw [windowsOpened_finishCommand]
    exact windowsOpened_txnWith _ _ _ { s with cur := some c }
  · have hreturns : r ≠ .never := fun h => hn (h ▸ ha)
    rw [framesSent_finishCommand, framesSent_txnWith, if_neg hreturns]
  · obtain rfl : r = .ok r0 r1 := ha.symm.trans hok
    refine ⟨?_, ?_⟩
    · rintro ⟨a, rfl⟩
      rw [finishCommand, lastAnswer_txnWith, responses_finishRead_ok]
    · rintro ⟨a, v, rfl⟩
      rw [finishCommand, lastAnswer_txnWith, responses_finishWrite_ok]

end Sys2Proof.Machine
end

section
/-! PROOF. What `BRINGUP` alone writes (10_state.md R22, R36; 41_sequencer.md R129, R137): once it
has ended, no command, phase or answer of the environment moves SEQ, IDSEEN, CAUSE or the reset line. -/

namespace Sys2Proof.Machine

/-- SEQ, IDSEEN, CAUSE and the reset line: the state that only `BRINGUP` and a reset of the CORE
write (10_state.md R22, R36; 41_sequencer.md R129). -/
def bringupRecord (s : State) : Seq × Option Byte × BitVec 3 × Option Level :=
  (s.seq, s.idSeen, s.cause, s.rst)

/-- `BRINGUP` has ended, in Ready or in Fatal, and one in progress is one yet to be refused: no
window is its own (41_sequencer.md R131). -/
structure BringupOver (s : State) : Prop where
  ended : s.seq = .ready ∨ s.seq = .fatal
  unopened : s.cur = some .bringup → s.txn = .none

theorem seq_eq_of_bringupRecord {s t : State} (h : bringupRecord t = bringupRecord s) : t.seq = s.seq :=
  congrArg Prod.fst h

/-- In a safe state an open window of `BRINGUP` stands in Verify (10_state.md R41). -/
theorem Safe.bringupOver {s : State} (hs : Safe s) (hseq : s.seq = .ready ∨ s.seq = .fatal) : BringupOver s := by
  refine ⟨hseq, fun hc => by_contra fun hx => ?_⟩
  have hverify : s.seq = .verify := hs.inProgress.verifying hc hx
  simp [hverify] at hseq

theorem BringupOver.ne_idle {s : State} (hs : BringupOver s) : s.seq ≠ .idle := by
  obtain h | h := hs.ended <;> simp [h]

theorem BringupOver.ne_verify {s : State} (hs : BringupOver s) : s.seq ≠ .verify := by
  obtain h | h := hs.ended <;> simp [h]

/-- A window open after the end of `BRINGUP` is that of a register command. -/
theorem BringupOver.ne_bringup {s : State} {c : Command} (hs : BringupOver s) (hc : s.cur = some c)
    (hx : s.txn ≠ .none) : c ≠ .bringup := by
  rintro rfl
  exact hx (hs.unopened hc)

/-! Transactions and register commands leave the record alone, whatever the answer. -/

theorem bringupRecord_exchangeWith (r : Answer) (t0 t1 : Byte) (s : State) :
    bringupRecord (exchangeWith r t0 t1 s) = bringupRecord s := by
  cases r <;> rfl

theorem bringupRecord_txnWith (r : Answer) (t0 t1 : Byte) (s : State) :
    bringupRecord (txnWith r t0 t1 s) = bringupRecord s := by
  cases r <;> rfl

theorem bringupRecord_finishRead (r : Answer) (s : State) :
    bringupRecord (finishRead r s) = bringupRecord s := by
  cases r <;> rfl

theorem bringupRecord_finishWrite (r : Answer) (s : State) :
    bringupRecord (finishWrite r s) = bringupRecord s := by
  cases r <;> rfl

theorem bringupRecord_finishCommand {c : Command} (hb : c ≠ .bringup) (s : State) :
    bringupRecord (finishCommand c s) = bringupRecord s := by
  cases c with
  | bringup => exact absurd rfl hb
  | read a => exact bringupRecord_finishRead _ s
  | write a v => exact bringupRecord_finishWrite _ s

/-- Outside Idle no instruction writes the record: the gate does not shut on a failed exchange or
on any byte read (40_register_access.md R111), and `BRINGUP` is refused (41_sequencer.md R131). -/
theorem bringupRecord_exec {i : Instr} {s t : State} (hidle : s.seq ≠ .idle) (h : exec i s = .next t) :
    bringupRecord t = bringupRecord s := by
  cases i with
  | read a =>
    obtain ⟨-, rfl⟩ | ⟨-, -, rfl⟩ | ⟨-, -, -, rfl⟩ := execRead_next h
    · rfl
    · rfl
    · exact (bringupRecord_finishRead _ _).trans (bringupRecord_txnWith _ _ _ _)
  | write a v =>
    obtain ⟨-, rfl⟩ | ⟨-, -, rfl⟩ | ⟨-, -, -, rfl⟩ := execWrite_next h
    · rfl
    · rfl
    · exact (bringupRecord_finishWrite _ _).trans (bringupRecord_txnWith _ _ _ _)
  | bringup =>
    obtain ⟨-, rfl⟩ | ⟨-, -, rfl⟩ | ⟨-, hi, -⟩ := execBringup_next h
    · rfl
    · rfl
    · exact absurd hi hidle
  | reserved =>
    obtain ⟨-, rfl⟩ | ⟨-, rfl⟩ := execReserved_next h <;> rfl
  | writeFrame a v =>
    obtain ⟨-, rfl⟩ := execWriteFrame_next h
    exact bringupRecord_txnWith _ _ _ s
  | readFrame a =>
    obtain ⟨-, rfl⟩ := execReadFrame_next h
    exact bringupRecord_txnWith _ _ _ s

/-! The phases of a command in progress. -/

@[simp] theorem exchangeWith_cur (r : Answer) (t0 t1 : Byte) (s : State) : (exchangeWith r t0 t1 s).cur = s.cur := by
  cases r <;> rfl

/-- After the end of `BRINGUP` a command begins with the window of a register command, or is
refused (41_sequencer.md R131, R135). -/
theorem begin_of_bringupOver {s : State} (hs : BringupOver s) (c : Command) :
    (c ≠ .bringup ∧ ∃ t0 t1, begin c s = openWindow t0 t1 s) ∨ ∃ st, begin c s = respond st none s := by
  cases c with
  | bringup => obtain h | h := hs.ended <;> exact .inr ⟨.notIdle, by simp [begin, h]⟩
  | read a =>
    simp only [begin]
    split
    · exact .inl ⟨by simp, _, _, rfl⟩
    · exact .inr ⟨_, rfl⟩
  | write a v =>
    simp only [begin]
    split
    · exact .inl ⟨by simp, _, _, rfl⟩
    · exact .inr ⟨_, rfl⟩

/-- A phase writes nothing of the record, and no window of `BRINGUP` is opened. -/
theorem advance_of_bringupOver {s t : State} (hs : BringupOver s) (h : advance s = .next t) :
    BringupOver t ∧ bringupRecord t = bringupRecord s := by
  have hkeep {u : State} (hu : bringupRecord u = bringupRecord s) (hx : u.cur = some .bringup → u.txn = .none) :
      BringupOver u ∧ bringupRecord u = bringupRecord s :=
    ⟨⟨seq_eq_of_bringupRecord hu ▸ hs.ended, hx⟩, hu⟩
  obtain ⟨-, rfl⟩ | ⟨c, hc, ⟨hx, rfl⟩ | ⟨hx, rfl⟩ | ⟨hx, rfl⟩⟩ := advance_next h
  · exact ⟨hs, rfl⟩
  · obtain ⟨hb, t0, t1, h'⟩ | ⟨st, h'⟩ := begin_of_bringupOver hs c
    · rw [h']
      exact hkeep rfl (by simp [hc, hb])
    · rw [h']
      exact hkeep rfl (by simp)
  · have hb : c ≠ .bringup := hs.ne_bringup hc (by simp [hx])
    exact hkeep (bringupRecord_exchangeWith _ _ _ (latchFrame _ _ s)) (by simp [exchangeLatched, exchange, hc, hb])
  · have hb : c ≠ .bringup := hs.ne_bringup hc (by simp [hx])
    exact hkeep (bringupRecord_finishCommand hb (closeWindow s)) (by simp)

/-- Only a `BRINGUP` in Verify has a verification frame to send (41_sequencer.md R124). -/
theorem ne_bringup_of_pendingFrame {c : Command} {i : Instr} {s : State} (hverify : s.seq ≠ .verify)
    (hc : s.cur = some c) (hp : pendingFrame s = some i) : c ≠ .bringup := by
  rintro rfl
  cases hx : s.txn <;> simp [pendingFrame, hc, hx, hverify] at hp

/-- After the end of `BRINGUP` only a reset of the CORE writes the record (41_sequencer.md R137). -/
theorem bringupRecord_step {s t : State} (hs : BringupOver s) (hreset : ¬ ResetNext s) (h : step s = .next t) :
    bringupRecord t = bringupRecord s := by
  obtain ⟨-, ⟨rest, hh, -⟩ | ⟨-, ⟨c, i, u, hc, hp, hu, rfl⟩ | ⟨c, -, -, hr⟩ | ⟨w, rest, -, -, hw⟩ | ⟨-, -, rfl⟩⟩⟩ :=
    step_next h
  · exact absurd ⟨rest, hh⟩ hreset
  · rw [bringupRecord_finishCommand (ne_bringup_of_pendingFrame hs.ne_verify hc hp) u]
    exact bringupRecord_exec hs.ne_idle hu
  · exact (resume_keeps (P := fun u => BringupOver u ∧ bringupRecord u = bringupRecord s)
      (fun u v ⟨hu, he⟩ hv => (advance_of_bringupOver hu hv).imp_right (·.trans he)) longestCommand ⟨hs, rfl⟩ hr).2
  · exact bringupRecord_exec (s := { s with host := rest }) hs.ne_idle hw
  · rfl

/-- Settles O37: in Ready `BRINGUP` is over, and then only a reset of the CORE writes SEQ, IDSEEN,
CAUSE or the reset line. -/
theorem gateStaysOpenUntilReset : Obligations.GateStaysOpenUntilReset := by
  intro s t hs hready hreset h
  have hrec : bringupRecord t = bringupRecord s := bringupRecord_step (hs.bringupOver (.inl hready)) hreset h
  obtain ⟨hseq, hid, hcause, hrst⟩ : t.seq = s.seq ∧ t.idSeen = s.idSeen ∧ t.cause = s.cause ∧ t.rst = s.rst := by
    simpa [bringupRecord] using hrec
  exact ⟨hseq.trans hready, hid, hcause, hrst⟩

end Sys2Proof.Machine
end

section
/-! PROOF. The encodings (30_encoding.md sections 1 to 4): a command word is its kind, its address
field and its data field side by side, a frame its flag, its address and its payload. -/

namespace Sys2Proof.Machine

/-! The fields of a word of either space. -/

section Fields

variable {n : Nat} (x : BitVec n) (a : Addr) (d : Byte)

theorem extractLsb'_data : (x ++ a ++ d).extractLsb' 0 8 = d :=
  BitVec.extractLsb'_append_eq_right

theorem extractLsb'_address : (x ++ a ++ d).extractLsb' 8 7 = a := by
  rw [BitVec.extractLsb'_append_eq_of_le (Nat.le_refl 8)]
  exact BitVec.extractLsb'_append_eq_right

theorem extractLsb'_kind : (x ++ a ++ d).extractLsb' 15 n = x := by
  rw [BitVec.extractLsb'_append_eq_of_le (by decide)]
  exact BitVec.extractLsb'_append_eq_left

theorem getLsbD_kind (i : Nat) : (x ++ a ++ d).getLsbD (15 + i) = x.getLsbD i := by
  rw [BitVec.getLsbD_append, if_neg (by omega), BitVec.getLsbD_append, if_neg (by omega)]
  congr 1
  omega

theorem toNat_append_fields : (x ++ a ++ d).toNat = 0x8000 * x.toNat + 0x100 * a.toNat + d.toNat := by
  rw [BitVec.toNat_append, BitVec.toNat_append, ← Nat.shiftLeft_add_eq_or_of_lt a.isLt,
    ← Nat.shiftLeft_add_eq_or_of_lt d.isLt, Nat.shiftLeft_eq, Nat.shiftLeft_eq]
  omega

/-- A word is its fields side by side. -/
theorem eq_append_fields (w : BitVec (n + 7 + 8)) : ∃ (x : BitVec n) (a : Addr) (d : Byte), w = x ++ a ++ d := by
  refine ⟨(w.extractLsb' 8 (n + 7)).extractLsb' 7 n, (w.extractLsb' 8 (n + 7)).extractLsb' 0 7, w.extractLsb' 0 8, ?_⟩
  rw [BitVec.extractLsb'_append_extractLsb', BitVec.extractLsb'_append_extractLsb']

/-- And each field can be told from it. -/
theorem append_fields_inj {x y : BitVec n} {a b : Addr} {d e : Byte} :
    x ++ a ++ d = y ++ b ++ e ↔ x = y ∧ a = b ∧ d = e := by
  refine ⟨fun h => ⟨?_, ?_, ?_⟩, fun ⟨hx, ha, hd⟩ => by rw [hx, ha, hd]⟩
  · rw [← extractLsb'_kind x a d, h, extractLsb'_kind]
  · rw [← extractLsb'_address x a d, h, extractLsb'_address]
  · rw [← extractLsb'_data x a d, h, extractLsb'_data]

end Fields

/-- `C[16:15]`, `C[14:8]`, `C[7:0]` (30_encoding.md R89). -/
theorem commandWord_eq_append (kind : BitVec 2) (a : Addr) (d : Byte) : commandWord kind a d = kind ++ a ++ d := by
  have h : (kind ++ a ++ d).setWidth 17 = commandWord kind a d :=
    BitVec.setWidth_append_append_eq_shiftLeft_setWidth_or
  rw [← h, BitVec.setWidth_eq]

/-- `F[15]`, `F[14:8]`, `F[7:0]` (30_encoding.md R80). -/
theorem frameWord_eq_append (w : BitVec 1) (a : Addr) (d : Byte) : frameWord w a d = w ++ a ++ d := by
  have h : (w ++ a ++ d).setWidth 16 = frameWord w a d :=
    BitVec.setWidth_append_append_eq_shiftLeft_setWidth_or
  rw [← h, BitVec.setWidth_eq]

/-! The decoder of command words, kind by kind (30_encoding.md R90). -/

section Kinds

variable (a : Addr) (d : Byte)

theorem commandWord_bit16 (kind : BitVec 2) : (kind ++ a ++ d : CommandWord)[16] = kind[1] := getLsbD_kind kind a d 1

theorem commandWord_bit15 (kind : BitVec 2) : (kind ++ a ++ d : CommandWord)[15] = kind[0] := getLsbD_kind kind a d 0

theorem commandWord_address (kind : BitVec 2) : (kind ++ a ++ d : CommandWord).extractLsb' 8 7 = a :=
  extractLsb'_address kind a d

theorem commandWord_data (kind : BitVec 2) : (kind ++ a ++ d : CommandWord).extractLsb' 0 8 = d :=
  extractLsb'_data kind a d

theorem decodeCommand_read : decodeCommand (0b00#2 ++ a ++ d) = .read a := by
  simp [decodeCommand, commandWord_bit16, commandWord_bit15, commandWord_address]

theorem decodeCommand_write : decodeCommand (0b01#2 ++ a ++ d) = .write a d := by
  simp [decodeCommand, commandWord_bit16, commandWord_bit15, commandWord_address, commandWord_data]

theorem decodeCommand_bringup : decodeCommand (0b10#2 ++ a ++ d) = .bringup := by
  simp [decodeCommand, commandWord_bit16, commandWord_bit15]

theorem decodeCommand_reserved : decodeCommand (0b11#2 ++ a ++ d) = .reserved := by
  simp [decodeCommand, commandWord_bit16, commandWord_bit15]

theorem frameWord_bit15 (w : BitVec 1) : (w ++ a ++ d : Frame)[15] = w[0] := getLsbD_kind w a d 0

theorem frameWord_address (w : BitVec 1) : (w ++ a ++ d : Frame).extractLsb' 8 7 = a := extractLsb'_address w a d

theorem frameWord_data (w : BitVec 1) : (w ++ a ++ d : Frame).extractLsb' 0 8 = d := extractLsb'_data w a d

/-- The decoder of frames, format by format (30_encoding.md R80, R86). -/
theorem decodeFrame_write : decodeFrame (1#1 ++ a ++ d) = .ok (.writeFrame a d) := by
  simp [decodeFrame, frameWord_bit15, frameWord_address, frameWord_data]

theorem decodeFrame_zero : decodeFrame (0#1 ++ a ++ d) = if d = 0#8 then .ok (.readFrame a) else .error .unsentFrame := by
  simp [decodeFrame, frameWord_bit15, frameWord_address, frameWord_data, Literal.filler]

end Kinds

/-! The encoder, instruction by instruction (30_encoding.md R80, R89). -/

section Encoder

variable (a : Addr) (v : Byte)

theorem encode_read : encode (.read a) = .command (0b00#2 ++ a ++ 0#8) :=
  congrArg Code.command (commandWord_eq_append 0b00 a 0)

theorem encode_write : encode (.write a v) = .command (0b01#2 ++ a ++ v) :=
  congrArg Code.command (commandWord_eq_append 0b01 a v)

theorem encode_writeFrame : encode (.writeFrame a v) = .frame (1#1 ++ a ++ v) :=
  congrArg Code.frame (frameWord_eq_append 1 a v)

theorem encode_readFrame : encode (.readFrame a) = .frame (0#1 ++ a ++ 0#8) :=
  congrArg Code.frame (frameWord_eq_append 0 a Literal.filler)

end Encoder

/-- Settles O1: the encoder puts the fields side by side, and the decoder takes them apart. -/
theorem decodeUndoesEncode : Obligations.DecodeUndoesEncode := by
  intro i
  cases i with
  | read a => rw [encode_read, decode, decodeCommand_read]
  | write a v => rw [encode_write, decode, decodeCommand_write]
  | bringup => rfl
  | reserved => rfl
  | writeFrame a v => rw [encode_writeFrame, decode, decodeFrame_write]
  | readFrame a => rw [encode_readFrame, decode, decodeFrame_zero, if_pos rfl]

/-- Settles O6: the fields of the vectors are read off their bits. -/
theorem sampleWordsDecode : Obligations.SampleWordsDecode := by
  refine ⟨?_, ?_, ?_, ?_, ?_, ?_, ?_⟩ <;> decide

theorem bitVec_two_cases (k : BitVec 2) : k = 0b00#2 ∨ k = 0b01#2 ∨ k = 0b10#2 ∨ k = 0b11#2 := by
  decide +revert

theorem bitVec_one_cases (w : BitVec 1) : w = 0#1 ∨ w = 1#1 := by
  decide +revert

theorem toNat_commandWord (kind : BitVec 2) (a : Addr) (d : Byte) :
    (kind ++ a ++ d : CommandWord).toNat = 0x8000 * kind.toNat + 0x100 * a.toNat + d.toNat :=
  toNat_append_fields kind a d

theorem ofNat_address (kind : BitVec 2) (a : Addr) (d : Byte) :
    BitVec.ofNat 7 ((kind ++ a ++ d : CommandWord).toNat / 256) = a := by
  apply BitVec.eq_of_toNat_eq
  rw [toNat_commandWord, BitVec.toNat_ofNat]
  omega

theorem ofNat_data (kind : BitVec 2) (a : Addr) (d : Byte) :
    BitVec.ofNat 8 (kind ++ a ++ d : CommandWord).toNat = d := by
  apply BitVec.eq_of_toNat_eq
  rw [toNat_commandWord, BitVec.toNat_ofNat]
  omega

/-- Settles O2: the kind is what the two top bits hold, and each kind reads the fields it names. -/
theorem commandWordsDecodeByTopBits : Obligations.CommandWordsDecodeByTopBits := by
  refine ⟨fun c => ?_, fun c c' => ?_⟩
  · obtain ⟨kind, a, d, rfl⟩ : ∃ (kind : BitVec 2) (a : Addr) (d : Byte), c = kind ++ a ++ d := eq_append_fields c
    have hn : (kind ++ a ++ d : CommandWord).toNat / 0x8000 = kind.toNat := by
      rw [toNat_commandWord]
      omega
    refine ⟨fun h => ?_, fun h => ?_, fun h => ?_, fun h => ?_⟩
    · obtain rfl : kind = 0b00#2 := BitVec.eq_of_toNat_eq (hn.symm.trans (by simp only [BitVec.toNat_ofNat]; omega))
      rw [ofNat_address, decodeCommand_read]
    · obtain rfl : kind = 0b01#2 := BitVec.eq_of_toNat_eq (hn.symm.trans (by simp only [BitVec.toNat_ofNat]; omega))
      rw [ofNat_address, ofNat_data, decodeCommand_write]
    · obtain rfl : kind = 0b10#2 := BitVec.eq_of_toNat_eq (hn.symm.trans (by simp only [BitVec.toNat_ofNat]; omega))
      exact decodeCommand_bringup a d
    · obtain rfl : kind = 0b11#2 := BitVec.eq_of_toNat_eq (hn.symm.trans (by simp only [BitVec.toNat_ofNat]; omega))
      exact decodeCommand_reserved a d
  · obtain ⟨kind, a, d, rfl⟩ : ∃ (kind : BitVec 2) (a : Addr) (d : Byte), c = kind ++ a ++ d := eq_append_fields c
    obtain ⟨kind', a', d', rfl⟩ : ∃ (kind : BitVec 2) (a : Addr) (d : Byte), c' = kind ++ a ++ d := eq_append_fields c'
    rw [extractLsb'_kind, extractLsb'_kind, extractLsb'_address, extractLsb'_address, getLsbD_kind kind a d 1,
      getLsbD_kind kind a d 0]
    rintro rfl hsame
    obtain rfl | rfl | rfl | rfl := bitVec_two_cases kind
    · obtain rfl : a = a' := by simpa using hsame
      rw [decodeCommand_read, decodeCommand_read]
    · simp at hsame
    · rw [decodeCommand_bringup, decodeCommand_bringup]
    · rw [decodeCommand_reserved, decodeCommand_reserved]

/-- The low 16 bits of a `WRITE` word are its frame (30_encoding.md R89). -/
theorem setWidth_writeWord (a : Addr) (v : Byte) : (0b01#2 ++ a ++ v).setWidth 16 = 1#1 ++ a ++ v := by
  rw [← frameWord_eq_append]
  exact BitVec.setWidth_append_append_eq_shiftLeft_setWidth_or

theorem extractLsb'_readWord (a : Addr) : (0b00#2 ++ a ++ 0#8).extractLsb' 8 8 = readFirstByte a := by
  apply BitVec.eq_of_toNat_eq
  rw [toNat_readFirstByte, BitVec.extractLsb'_toNat, toNat_commandWord, Nat.shiftRight_eq_div_pow]
  simp only [BitVec.toNat_ofNat]
  omega

/-- Settles O3: both frames are the first byte of their operand form and then the payload. -/
theorem commandWordCarriesFrame : Obligations.CommandWordCarriesFrame := by
  intro a v
  refine ⟨⟨_, encode_write a v, ?_, ?_⟩, _, encode_read a, extractLsb'_readWord a, ?_⟩
  · rw [encode_writeFrame, setWidth_writeWord]
  · rw [setWidth_writeWord, writeFirstByte_eq_cons]
    rfl
  · rw [encode_readFrame, readFirstByte_eq_cons]
    rfl

theorem writeFrame_firstByte (a : Addr) (v : Byte) : (1#1 ++ a ++ v).extractLsb' 8 8 = writeFirstByte a := by
  rw [writeFirstByte_eq_cons]
  exact BitVec.extractLsb'_append_eq_left

theorem readFrame_firstByte (a : Addr) (v : Byte) : (0#1 ++ a ++ v).extractLsb' 8 8 = readFirstByte a := by
  rw [readFirstByte_eq_cons]
  exact BitVec.extractLsb'_append_eq_left

/-- Settles O5: a frame is its flag, address and payload, and the decoder asks the flag first and
then whether the payload is the filler. -/
theorem twoFrameFormatsOnly : Obligations.TwoFrameFormatsOnly := by
  intro f
  obtain ⟨w, a, d, rfl⟩ : ∃ (w : BitVec 1) (a : Addr) (d : Byte), f = w ++ a ++ d := eq_append_fields f
  have hbit : (w ++ a ++ d : Frame).getLsbD 15 = w.getLsbD 0 := getLsbD_kind w a d 0
  simp only [append_fields_inj, frameWord_data, hbit, writeFrame_firstByte, readFrame_firstByte]
  obtain rfl | rfl := bitVec_one_cases w
  · rw [decodeFrame_zero]
    by_cases hd : d = 0#8 <;> simp [hd]
  · rw [decodeFrame_write]
    simp

/-- Settles O7: the check asks the address first and then the value, and keeps what is in range. -/
theorem addressAbove127IsRefused : Obligations.AddressAbove127IsRefused := by
  intro a v
  refine ⟨fun ha => ?_, fun ha hv => ?_, fun ha => ?_, fun ha hv => ?_⟩
  · exact ⟨BitVec.ofNat 7 a, Nat.mod_eq_of_lt ha, by rw [RawCommand.check, if_pos ha]⟩
  · exact ⟨BitVec.ofNat 7 a, BitVec.ofNat 8 v, Nat.mod_eq_of_lt ha, Nat.mod_eq_of_lt hv,
      by rw [RawCommand.check, if_neg (by omega), if_neg (by omega)]⟩
  · exact ⟨by rw [RawCommand.check, if_neg (by omega)], by rw [RawCommand.check, if_pos ha]⟩
  · rw [RawCommand.check, if_neg (by omega), if_pos hv]

/-- The status stands in front of the data byte (30_encoding.md R91). -/
theorem toNat_responseWord (absent : Byte) (st : Status) (data : Option Byte) :
    (responseWord absent st data).toNat = 256 * (statusCode st).toNat + (data.getD absent).toNat := by
  rw [responseWord, BitVec.toNat_append, ← Nat.shiftLeft_add_eq_or_of_lt (data.getD absent).isLt, Nat.shiftLeft_eq]
  omega

/-- Settles O52: the byte is below 256, so the status is what the word holds above it. -/
theorem responseWordLayout : Obligations.ResponseWordLayout := by
  refine ⟨fun absent st d => toNat_responseWord absent st (some d), fun absent st => ?_,
    rfl, rfl, rfl, rfl, rfl, rfl⟩
  rw [toNat_responseWord, Option.getD_none]
  omega

end Sys2Proof.Machine
end

section
/-! PROOF. The invariants of 10_state.md R41, taken apart by what they speak of: what `BRINGUP` alone
writes, which values of SEQ a command may stand at, and the open window; each is kept by every phase. -/

namespace Sys2Proof.Machine

/-- The level of the reset line at each value of SEQ (10_state.md R41). -/
def resetLevel : Seq → Option Level
  | .idle => none
  | .asserted => some .low
  | _ => some .high

/-- What R41 says of the reset line, IDSEEN and CAUSE, read off SEQ (10_state.md R36, R41). -/
structure Recorded (s : State) : Prop where
  line : s.rst = resetLevel s.seq
  identified : s.seq = .ready → s.idSeen = some s.params.idExpected ∧ s.cause = 0
  failed : s.seq = .fatal → (s.cause = 1 ∧ s.idSeen ≠ none ∧ s.idSeen ≠ some s.params.idExpected) ∨
    (s.cause = 2 ∧ s.idSeen = none)
  unjudged : s.seq ≠ .ready → s.seq ≠ .fatal → s.idSeen = none ∧ s.cause = 0

/-- Only `BRINGUP` stands inside the sequence (10_state.md R22). -/
def Positioned (s : State) : Prop :=
  s.cur = some .bringup ∨ s.seq = .idle ∨ s.seq = .ready ∨ s.seq = .fatal

/-- The window of command `c` is open: where `c` opens it, with its frame latched and, once the
exchange has returned, its result held (40_register_access.md R100; 10_state.md R28, R41). -/
structure WindowOf (c : Command) (s : State) : Prop where
  current : s.cur = some c
  place : s.seq = if c = .bringup then .verify else .ready
  asserted : s.cs = csAsserted s.params
  latched : s.tx0 = some (commandFrame s.params c).1 ∧ s.tx1 = some (commandFrame s.params c).2
  received : s.txn = .exchanged → (∃ r0 r1, s.result = some (.ok r0 r1) ∧ s.rx0 = some r0 ∧ s.rx1 = some r1) ∨
    (s.result = some .fail ∧ s.rx0 = none ∧ s.rx1 = none)

/-! The parts of a safe state. -/

section Parts

variable {s : State}

theorem Safe.recorded (h : Safe s) : Recorded s := by
  refine ⟨?_, h.inv.identified, fun hf => ?_, h.inProgress.unjudged⟩
  · cases hq : s.seq with
    | idle => exact h.inv.undriven hq
    | asserted => exact h.inv.pulsed hq
    | _ => exact h.inv.notResetting (by simp [hq]) (by simp [hq])
  · exact (h.inv.failed hf).imp (fun hc => ⟨hc, h.inv.mismatch hc⟩) (fun hc => ⟨hc, h.inv.unread hc⟩)

theorem Safe.positioned (h : Safe s) : Positioned s := by
  cases hc : s.cur with
  | none => exact .inr (h.inv.atRest hc).2
  | some c =>
    by_cases hb : c = .bringup
    · exact .inl (hb ▸ hc)
    · exact .inr (h.inProgress.sequencing c hc hb)

theorem Safe.windowOf (h : Safe s) {c : Command} (hc : s.cur = some c) (hx : s.txn ≠ .none) : WindowOf c s := by
  refine ⟨hc, ?_, h.inv.selected hx, h.inProgress.latched hx c hc, h.inProgress.received⟩
  split
  next hb => exact h.inProgress.verifying (hb ▸ hc) hx
  next hb => exact h.inv.gated c hc hb hx

/-- CAUSE tells which failure it was, in Fatal and nowhere else (10_state.md R41.5). -/
theorem Recorded.cause_cases (h : Recorded s) : s.cause = 0 ∨
    (s.cause = 1 ∧ s.idSeen ≠ none ∧ s.idSeen ≠ some s.params.idExpected) ∨ (s.cause = 2 ∧ s.idSeen = none) := by
  by_cases hr : s.seq = .ready
  · exact .inl (h.identified hr).2
  · by_cases hf : s.seq = .fatal
    · exact .inr (h.failed hf)
    · exact .inl (h.unjudged hr hf).2

theorem Recorded.undriven (h : Recorded s) (hq : s.seq = .idle) : s.rst = none := by rw [h.line, hq, resetLevel]

theorem Recorded.pulsed (h : Recorded s) (hq : s.seq = .asserted) : s.rst = some .low := by
  rw [h.line, hq, resetLevel]

theorem Recorded.notResetting (h : Recorded s) (hi : s.seq ≠ .idle) (ha : s.seq ≠ .asserted) : s.rst = some .high := by
  rw [h.line]
  cases hq : s.seq with
  | idle => exact absurd hq hi
  | asserted => exact absurd hq ha
  | _ => rfl

theorem Recorded.mismatch (h : Recorded s) (hc : s.cause = 1) :
    s.idSeen ≠ none ∧ s.idSeen ≠ some s.params.idExpected := by
  simpa [hc] using h.cause_cases

theorem Recorded.unread (h : Recorded s) (hc : s.cause = 2) : s.idSeen = none := by
  simpa [hc] using h.cause_cases

/-- A state with no window open is safe by its record, its place and a released chip-select. -/
theorem safe_of_closed (h : Recorded s) (hp : Positioned s) (hx : s.txn = .none) (hcs : s.cs = csDeasserted s.params) :
    Safe s where
  inv :=
    { released := fun _ => hcs
      selected := fun hn => absurd hx hn
      window := fun hn => absurd hx hn
      undriven := h.undriven
      pulsed := h.pulsed
      notResetting := h.notResetting
      identified := h.identified
      failed := fun hf => (h.failed hf).imp And.left And.left
      mismatch := h.mismatch
      unread := h.unread
      atRest := fun hc => ⟨hx, hp.resolve_left (by simp [hc])⟩
      gated := fun _ _ _ hn => absurd hx hn }
  inProgress :=
    { sequencing := fun c hc hb => hp.resolve_left (by simp [hc, hb])
      verifying := fun _ hn => absurd hx hn
      unjudged := h.unjudged
      latched := fun hn => absurd hx hn
      received := fun he => by simp [hx] at he }

/-- A state with the window of a command open is safe by its record and that window. -/
theorem safe_of_open {c : Command} (h : Recorded s) (hx : s.txn ≠ .none) (hw : WindowOf c s) : Safe s where
  inv :=
    { released := fun hn => absurd hn hx
      selected := fun _ => hw.asserted
      window := fun _ => by rw [hw.place]; split <;> simp
      undriven := h.undriven
      pulsed := h.pulsed
      notResetting := h.notResetting
      identified := h.identified
      failed := fun hf => (h.failed hf).imp And.left And.left
      mismatch := h.mismatch
      unread := h.unread
      atRest := fun hc => by simp [hw.current] at hc
      gated := fun d hd hb _ => by
        obtain rfl : c = d := Option.some.inj (hw.current.symm.trans hd)
        rw [hw.place, if_neg hb] }
  inProgress :=
    { sequencing := fun d hd hb => by
        obtain rfl : c = d := Option.some.inj (hw.current.symm.trans hd)
        exact .inr (.inl (by rw [hw.place, if_neg hb]))
      verifying := fun hd _ => by
        obtain rfl : c = .bringup := Option.some.inj (hw.current.symm.trans hd)
        rw [hw.place, if_pos rfl]
      unjudged := h.unjudged
      latched := fun _ d hd => by
        obtain rfl : c = d := Option.some.inj (hw.current.symm.trans hd)
        exact hw.latched
      received := hw.received }

end Parts

/-! The next phase with no transaction in flight: of a register command at the gate (41_sequencer.md
R135), and of `BRINGUP` at each value of SEQ (41_sequencer.md R121 to R124, R131). -/

section Begin

variable {s : State}

theorem begin_ready {c : Command} (hb : c ≠ .bringup) (hr : s.seq = .ready) :
    begin c s = openWindow (commandFrame s.params c).1 (commandFrame s.params c).2 s := by
  cases c with
  | bringup => exact absurd rfl hb
  | read a => exact if_pos (by simpa [ready] using hr)
  | write a v => exact if_pos (by simpa [ready] using hr)

theorem begin_not_ready {c : Command} (hb : c ≠ .bringup) (hr : s.seq ≠ .ready) : begin c s = respond .gateClosed none s := by
  cases c with
  | bringup => exact absurd rfl hb
  | read a => exact if_neg (by simpa [ready] using hr)
  | write a v => exact if_neg (by simpa [ready] using hr)

theorem begin_idle (h : s.seq = .idle) : begin .bringup s = enterHeldHigh s := by
  simp only [begin, h]

theorem begin_heldHigh (h : s.seq = .heldHigh) : begin .bringup s = enterAsserted (holdHigh s) := by
  simp only [begin, h]

theorem begin_asserted (h : s.seq = .asserted) : begin .bringup s = enterSettling (holdLow s) := by
  simp only [begin, h]

theorem begin_settling (h : s.seq = .settling) : begin .bringup s = enterVerify (holdSettle s) := by
  simp only [begin, h]

theorem begin_verify (h : s.seq = .verify) :
    begin .bringup s = openWindow (readFirstByte s.params.idAddr) Literal.filler s := by
  simp only [begin, h]

theorem begin_over (h : s.seq = .ready ∨ s.seq = .fatal) : begin .bringup s = respond .notIdle none s := by
  obtain h | h := h <;> simp only [begin, h]

end Begin

/-! How a register command ends (40_register_access.md R104, R108). -/

/-- A response that carries a byte is OK or IdentityMismatch (60_exceptions.md R150). -/
def DataAllowed (st : Status) (d : Option Byte) : Prop := d.isSome = true → st = .ok ∨ st = .identityMismatch

theorem finishCommand_register_cases {c : Command} (hb : c ≠ .bringup) (s : State) :
    (lastAnswer s = .never ∧ finishCommand c s = s) ∨
      ∃ st d, DataAllowed st d ∧ finishCommand c s = respond st d (takeResult s) := by
  cases c with
  | bringup => exact absurd rfl hb
  | read a =>
    obtain ⟨_, _, -, h⟩ | ⟨-, h⟩ | h := finishRead_cases (lastAnswer s) s
    · exact .inr ⟨.ok, (takeResult s).rx1, fun _ => .inl rfl, h⟩
    · exact .inr ⟨.transportFailure, none, nofun, h⟩
    · exact .inl h
  | write a v =>
    obtain ⟨_, _, -, h⟩ | ⟨-, h⟩ | h := finishWrite_cases (lastAnswer s) s
    · exact .inr ⟨.ok, none, nofun, h⟩
    · exact .inr ⟨.transportFailure, none, nofun, h⟩
    · exact .inl h

/-! What a phase of a command keeps. -/

section Phases

variable {s : State}

theorem bringupRecord_eq_iff {t : State} : bringupRecord t = bringupRecord s ↔
    t.seq = s.seq ∧ t.idSeen = s.idSeen ∧ t.cause = s.cause ∧ t.rst = s.rst := by
  simp [bringupRecord]

theorem Recorded.congr {t : State} (h : Recorded s) (hrec : bringupRecord t = bringupRecord s) (hp : t.params = s.params) :
    Recorded t := by
  obtain ⟨hseq, hid, hcause, hrst⟩ := bringupRecord_eq_iff.1 hrec
  constructor <;> rw [hseq]
  · rw [hrst, h.line]
  · rw [hid, hcause, hp]
    exact h.identified
  · rw [hid, hcause, hp]
    exact h.failed
  · rw [hid, hcause]
    exact h.unjudged

/-- A place of SEQ before the verdict: IDSEEN and CAUSE stay unwritten (10_state.md R36). -/
theorem recorded_of_unjudged (hid : s.idSeen = none ∧ s.cause = 0) (hline : s.rst = resetLevel s.seq)
    (hr : s.seq ≠ .ready) (hf : s.seq ≠ .fatal) : Recorded s :=
  ⟨hline, fun h => absurd h hr, fun h => absurd h hf, fun _ _ => hid⟩

/-- Opening the window of the command in progress at its place (40_register_access.md R103). -/
theorem Safe.openWindow (hs : Safe s) {c : Command} (hc : s.cur = some c)
    (hplace : s.seq = if c = .bringup then .verify else .ready) :
    Safe (openWindow (commandFrame s.params c).1 (commandFrame s.params c).2 s) :=
  safe_of_open (hs.recorded.congr rfl rfl) (by simp) ⟨hc, hplace, rfl, ⟨rfl, rfl⟩, fun h => by simp at h⟩

/-- A response given with no window open, SEQ as it was. -/
theorem Safe.respond (hs : Safe s) (hx : s.txn = .none) (hq : s.seq = .idle ∨ s.seq = .ready ∨ s.seq = .fatal)
    (st : Status) (d : Option Byte) : Safe (respond st d s) :=
  safe_of_closed (hs.recorded.congr rfl rfl) (.inr hq) hx (hs.inv.released hx)

/-- The steps S1 to S3 of `BRINGUP`: drives, holds and moves of SEQ that keep IDSEEN and CAUSE
unwritten (41_sequencer.md R121 to R124). -/
theorem Safe.sequence {t : State} (hs : Safe s) (hx : s.txn = .none) (hr : s.seq ≠ .ready) (hf : s.seq ≠ .fatal)
    (hbusy : t.cur = some .bringup) (hline : t.rst = resetLevel t.seq) (hr' : t.seq ≠ .ready) (hf' : t.seq ≠ .fatal)
    (hkeep : t.idSeen = s.idSeen ∧ t.cause = s.cause ∧ t.txn = s.txn ∧ t.cs = s.cs ∧ t.params = s.params) : Safe t := by
  obtain ⟨hid, hcause, htxn, hcs, hp⟩ := hkeep
  refine safe_of_closed (recorded_of_unjudged ?_ hline hr' hf') (.inl hbusy) (htxn.trans hx) ?_
  · rw [hid, hcause]
    exact hs.inProgress.unjudged hr hf
  · rw [hcs, hp]
    exact hs.inv.released hx

theorem Safe.begin (hs : Safe s) {c : Command} (hc : s.cur = some c) (hx : s.txn = .none) : Safe (begin c s) := by
  by_cases hb : c = .bringup
  · subst hb
    cases hq : s.seq with
    | idle =>
      rw [begin_idle hq]
      exact hs.sequence hx (by simp [hq]) (by simp [hq]) hc rfl nofun nofun ⟨rfl, rfl, rfl, rfl, rfl⟩
    | heldHigh =>
      rw [begin_heldHigh hq]
      exact hs.sequence hx (by simp [hq]) (by simp [hq]) hc rfl nofun nofun ⟨rfl, rfl, rfl, rfl, rfl⟩
    | asserted =>
      rw [begin_asserted hq]
      exact hs.sequence hx (by simp [hq]) (by simp [hq]) hc rfl nofun nofun ⟨rfl, rfl, rfl, rfl, rfl⟩
    | settling =>
      have hline : s.rst = some .high := hs.inv.notResetting (by simp [hq]) (by simp [hq])
      rw [begin_settling hq]
      exact hs.sequence hx (by simp [hq]) (by simp [hq]) hc hline nofun nofun ⟨rfl, rfl, rfl, rfl, rfl⟩
    | verify =>
      rw [begin_verify hq]
      exact hs.openWindow hc hq
    | ready =>
      rw [begin_over (.inl hq)]
      exact hs.respond hx (.inr (.inl hq)) _ _
    | fatal =>
      rw [begin_over (.inr hq)]
      exact hs.respond hx (.inr (.inr hq)) _ _
  · by_cases hr : s.seq = .ready
    · rw [begin_ready hb hr]
      exact hs.openWindow hc (by rw [if_neg hb, hr])
    · rw [begin_not_ready hb hr]
      exact hs.respond hx (hs.inProgress.sequencing c hc hb) _ _

/-- The exchange of an open window sends the latched frame and holds what it returns (20_memory.md R56). -/
theorem Safe.exchangeWith (hs : Safe s) {c : Command} (hc : s.cur = some c) (hx : s.txn = .selected) (r : Answer)
    (t0 t1 : Byte) : Safe (exchangeWith r t0 t1 s) := by
  have hw := hs.windowOf hc (by simp [hx])
  cases r with
  | ok r0 r1 =>
    exact safe_of_open (hs.recorded.congr rfl rfl) (by simp)
      ⟨hc, hw.place, hw.asserted, hw.latched, fun _ => .inl ⟨r0, r1, rfl, rfl, rfl⟩⟩
  | fail =>
    exact safe_of_open (hs.recorded.congr rfl rfl) (by simp)
      ⟨hc, hw.place, hw.asserted, hw.latched, fun _ => .inr ⟨rfl, rfl, rfl⟩⟩
  | never => exact hs

/-- The verdict of `BRINGUP` writes IDSEEN and CAUSE as R41.4 and R41.5 ask (41_sequencer.md R125, R126). -/
theorem recorded_judge (hid : s.idSeen = none ∧ s.cause = 0) (hline : s.rst = some .high) {b : Byte} (hb : s.rx1 = some b) :
    Recorded (judge s) ∧ ((judge s).seq = .ready ∨ (judge s).seq = .fatal) := by
  obtain ⟨he, h⟩ | ⟨hn, h⟩ := judge_cases s
  · rw [h]
    exact ⟨⟨hline, fun _ => ⟨he, hid.2⟩, nofun, fun hr => absurd rfl hr⟩, .inl rfl⟩
  · rw [h]
    exact ⟨⟨hline, nofun, fun _ => .inl ⟨rfl, by simp [hb], hn⟩, fun _ hf => absurd rfl hf⟩, .inr rfl⟩

@[simp] theorem judge_cs : (judge s).cs = s.cs := by
  obtain ⟨-, h⟩ | ⟨-, h⟩ := judge_cases s <;> rw [h] <;> rfl

@[simp] theorem judge_params : (judge s).params = s.params := by
  obtain ⟨-, h⟩ | ⟨-, h⟩ := judge_cases s <;> rw [h] <;> rfl

/-- What a returned exchange has left for the end of its command (40_register_access.md R100). -/
theorem WindowOf.lastAnswer_cases {c : Command} (h : WindowOf c s) (hx : s.txn = .exchanged) :
    (∃ r0 r1, lastAnswer s = .ok r0 r1 ∧ s.rx1 = some r1) ∨ lastAnswer s = .fail := by
  obtain ⟨r0, r1, hr, -, h1⟩ | ⟨hr, -, -⟩ := h.received hx
  · exact .inl ⟨r0, r1, by rw [lastAnswer, hr]; rfl, h1⟩
  · exact .inr (by rw [lastAnswer, hr]; rfl)

theorem Safe.finishCommand (hs : Safe s) {c : Command} (hc : s.cur = some c) (hx : s.txn = .exchanged) :
    Safe (finishCommand c (closeWindow s)) := by
  have hw := hs.windowOf hc (by simp [hx])
  have hr : (∃ r0 r1, lastAnswer (closeWindow s) = .ok r0 r1 ∧ s.rx1 = some r1) ∨ lastAnswer (closeWindow s) = .fail :=
    hw.lastAnswer_cases hx
  by_cases hb : c = .bringup
  · subst hb
    have hverify : s.seq = .verify := hw.place
    have hid : s.idSeen = none ∧ s.cause = 0 := hs.inProgress.unjudged (by simp [hverify]) (by simp [hverify])
    have hline : s.rst = some .high := hs.inv.notResetting (by simp [hverify]) (by simp [hverify])
    obtain ⟨r0, r1, hr, h1⟩ | hr := hr <;> rw [Machine.finishCommand, hr]
    · obtain ⟨hrec, hq⟩ := recorded_judge (s := takeResult (closeWindow s)) hid hline h1
      exact safe_of_closed hrec (.inr (.inr hq)) (judge_txn _) (by simp [finishBringup])
    · exact safe_of_closed ⟨hline, nofun, fun _ => .inr ⟨rfl, hid.1⟩, fun _ hf => absurd rfl hf⟩
        (.inr (.inr (.inr rfl))) rfl rfl
  · have hready : s.seq = .ready := hw.place.trans (if_neg hb)
    obtain ⟨hn, -⟩ | ⟨st, d, -, h⟩ := finishCommand_register_cases hb (closeWindow s)
    · simp [hn] at hr
    · rw [h]
      exact safe_of_closed (hs.recorded.congr rfl rfl) (.inr (.inr (.inl hready))) rfl rfl

/-- Before its exchange an open window has the frame of its command latched, and nothing is latched
again (10_state.md R27, R29). -/
theorem Safe.exchangeLatched_eq (hs : Safe s) {c : Command} (hc : s.cur = some c) (hx : s.txn = .selected) :
    exchangeLatched (commandFrame s.params c).1 (commandFrame s.params c).2 s =
      exchange (commandFrame s.params c).1 (commandFrame s.params c).2 s := by
  obtain ⟨h0, h1⟩ := hs.inProgress.latched (by simp [hx]) c hc
  exact Machine.exchangeLatched_eq h0 h1 _ _

theorem Safe.advance {t : State} (hs : Safe s) (h : advance s = .next t) : Safe t := by
  obtain ⟨-, rfl⟩ | ⟨c, hc, ⟨hx, rfl⟩ | ⟨hx, rfl⟩ | ⟨hx, rfl⟩⟩ := advance_next h
  · exact hs
  · exact hs.begin hc hx
  · rw [hs.exchangeLatched_eq hc hx]
    exact hs.exchangeWith hc hx _ _ _
  · exact hs.finishCommand hc hx

end Phases

/-- Settles O30: each phase keeps what R41 says of the record, of the place and of the window. -/
theorem advanceKeepsSafe : Obligations.AdvanceKeepsSafe := fun _ _ => Safe.advance

theorem resetWith_safe (p : Params) : Safe (State.resetWith p) :=
  safe_of_closed (recorded_of_unjudged ⟨rfl, rfl⟩ rfl nofun nofun) (.inr (.inl rfl)) rfl rfl

/-- Settles O28: at reset nothing is in progress, the trace is empty and no peripheral is connected. -/
theorem resetStateIsSafe : Obligations.ResetStateIsSafe := fun p => ⟨resetWith_safe p, rfl, rfl, rfl⟩

/-- Settles O27: the values of 10_state.md R42, field by field. -/
theorem resetValues : Obligations.ResetValues :=
  ⟨rfl, rfl, rfl, rfl, rfl, rfl, rfl, rfl, rfl, rfl, rfl, rfl, rfl, rfl⟩

/-! The edges of SEQ (10_state.md R22). -/

/-- A phase outside a transaction moves SEQ along an edge of the reset pulse, or not at all. -/
theorem begin_seq (c : Command) (s : State) :
    (begin c s).seq = s.seq ∨ c = .bringup ∧ seqEdge s.seq (begin c s).seq = true := by
  by_cases hb : c = .bringup
  · subst hb
    cases hq : s.seq with
    | idle => exact .inr ⟨rfl, by rw [begin_idle hq]; rfl⟩
    | heldHigh => exact .inr ⟨rfl, by rw [begin_heldHigh hq]; rfl⟩
    | asserted => exact .inr ⟨rfl, by rw [begin_asserted hq]; rfl⟩
    | settling => exact .inr ⟨rfl, by rw [begin_settling hq]; rfl⟩
    | verify => exact .inl (by rw [begin_verify hq]; exact hq)
    | ready => exact .inl (by rw [begin_over (.inl hq)]; exact hq)
    | fatal => exact .inl (by rw [begin_over (.inr hq)]; exact hq)
  · by_cases hr : s.seq = .ready
    · exact .inl (by rw [begin_ready hb hr, openWindow_seq, hr])
    · exact .inl (by rw [begin_not_ready hb hr, respond_seq])

/-- The end of a command moves SEQ only by the verdict of `BRINGUP` (41_sequencer.md R125 to R127). -/
theorem finishCommand_seq (c : Command) (s : State) :
    (finishCommand c s).seq = s.seq ∨
      c = .bringup ∧ ((finishCommand c s).seq = .ready ∨ (finishCommand c s).seq = .fatal) := by
  by_cases hb : c = .bringup
  · subst hb
    rw [finishCommand]
    obtain ⟨_, _, -, h⟩ | ⟨-, h⟩ | ⟨-, h⟩ := finishBringup_cases (lastAnswer s) s <;> rw [h]
    · obtain ⟨-, hj⟩ | ⟨-, hj⟩ := judge_cases (takeResult s) <;> rw [hj]
      · exact .inr ⟨rfl, .inl rfl⟩
      · exact .inr ⟨rfl, .inr rfl⟩
    · exact .inr ⟨rfl, .inr rfl⟩
    · exact .inl rfl
  · exact .inl (seq_eq_of_bringupRecord (bringupRecord_finishCommand hb s))

/-- Settles O23: the reset pulse moves SEQ one place at a time, and the verdict moves it from Verify. -/
theorem sequencerMovesAlongItsEdges : Obligations.SequencerMovesAlongItsEdges := by
  intro s t hs h
  obtain ⟨-, rfl⟩ | ⟨c, hc, ⟨hx, rfl⟩ | ⟨hx, rfl⟩ | ⟨hx, rfl⟩⟩ := advance_next h
  · exact .inl rfl
  · exact (begin_seq c s).imp_right fun ⟨hb, he⟩ => ⟨hb ▸ hc, he⟩
  · rw [hs.exchangeLatched_eq hc hx]
    exact .inl (seq_eq_of_bringupRecord (bringupRecord_exchangeWith _ _ _ s))
  · obtain hq | ⟨rfl, hq⟩ := finishCommand_seq c (closeWindow s)
    · exact .inl hq
    · have hverify : s.seq = .verify := hs.inProgress.verifying hc (by simp [hx])
      exact .inr ⟨hc, by obtain hq | hq := hq <;> rw [hq, hverify] <;> rfl⟩

/-! Where SEQ and TXN point, the phase that comes next (10_state.md R21, R23). -/

section NextPhase

variable {s : State} {c : Command}

theorem advance_free (hc : s.cur = none) : advance s = .next s := by
  simp only [advance, hc]

theorem advance_closed (hc : s.cur = some c) (hx : s.txn = .none) : advance s = .next (begin c s) := by
  simp only [advance, hc, hx]

theorem advance_selected (hc : s.cur = some c) (hx : s.txn = .selected) :
    advance s = .next (exchangeLatched (commandFrame s.params c).1 (commandFrame s.params c).2 s) := by
  simp only [advance, hc, hx]

theorem advance_exchanged (hc : s.cur = some c) (hx : s.txn = .exchanged) :
    advance s = .next (finishCommand c (closeWindow s)) := by
  simp only [advance, hc, hx]

theorem advance_total (s : State) : ∃ t, advance s = .next t := by
  cases hc : s.cur with
  | none => exact ⟨_, advance_free hc⟩
  | some c =>
    cases hx : s.txn with
    | none => exact ⟨_, advance_closed hc hx⟩
    | selected => exact ⟨_, advance_selected hc hx⟩
    | exchanged => exact ⟨_, advance_exchanged hc hx⟩

end NextPhase

/-- Settles O54: a safe window has its frame latched, and the answer decides the rest; a latch that
holds nothing is written with the byte it would have been given. -/
theorem exchangePhaseSendsTheLatches : Obligations.ExchangePhaseSendsTheLatches := by
  refine ⟨fun s c t0 t1 hs hc hx h0 h1 => ?_, fun s c hc hx => ⟨fun h0 => ?_, fun h1 => ?_⟩, advance_total⟩
  · obtain ⟨hf0, hf1⟩ := hs.inProgress.latched (by simp [hx]) c hc
    have hadv : advance s = .next (exchange t0 t1 s) := by
      rw [advance_selected hc hx, exchangeLatched_eq h0 h1]
    refine ⟨Prod.ext (Option.some.inj (h0.symm.trans hf0)) (Option.some.inj (h1.symm.trans hf1)), ?_, ?_, ?_⟩
    · intro r0 r1 hr
      rw [hadv, exchange, hr]
      rfl
    · intro hr
      rw [hadv, exchange, hr]
      rfl
    · intro hr
      rw [hadv, exchange, hr]
      rfl
  · have hadv := advance_selected (s := { s with tx0 := some (commandFrame s.params c).1 }) hc hx
    rw [advance_selected hc hx, hadv]
    simp [exchangeLatched, latchFrame, h0]
  · have hadv := advance_selected (s := { s with tx1 := some (commandFrame s.params c).2 }) hc hx
    rw [advance_selected hc hx, hadv]
    simp [exchangeLatched, latchFrame, h1]

/-- Settles O21: one phase per value of SEQ, each hold in front of the drive that ends it. -/
theorem sequencerPhases : Obligations.SequencerPhases := by
  intro s hc hx
  rw [advance_closed hc hx]
  refine ⟨fun hq => ?_, fun hq => ?_, fun hq => ?_, fun hq => ?_, fun hq => ?_⟩
  · rw [begin_idle hq]
    rfl
  · rw [begin_heldHigh hq]
    simp [enterAsserted, holdHigh, setLine, delay, record]
  · rw [begin_asserted hq]
    simp [enterSettling, holdLow, setLine, delay, record, Env.onLine]
  · rw [begin_settling hq]
    rfl
  · rw [begin_verify hq]
    rfl

end Sys2Proof.Machine
end

section
/-! PROOF. The commands of the host as runs of their phases (10_state.md section 2): the
pseudocode of the spec and the phase machine give the same state, so what every phase keeps every
step keeps. -/

namespace Sys2Proof.Machine

/-! Running the phases. -/

section Resume

variable {s : State} {c : Command}

theorem resume_free (hc : s.cur = none) (n : Nat) : resume n s = .next s := by
  cases n <;> simp [resume, busy, hc]

theorem resume_succ {t : State} (hc : s.cur = some c) (h : advance s = .next t) (n : Nat) :
    resume (n + 1) s = resume n t := by
  simp [resume, busy, hc, h]

theorem resume_begin {t : State} (hc : s.cur = some c) (hx : s.txn = .none) (h : begin c s = t) (n : Nat) :
    resume (n + 1) s = resume n t :=
  resume_succ hc (h ▸ advance_closed hc hx) n

end Resume

/-! A register command at the gate (41_sequencer.md R135). -/

section Gate

variable {s : State} {c : Command}

/-- Outside Ready a register command is refused (41_sequencer.md R135). -/
theorem exec_instr_not_ready (hb : c ≠ .bringup) (h : Accepts s) (hr : s.seq ≠ .ready) :
    exec c.instr s = .next (respond .gateClosed none { s with cur := some c }) := by
  cases c with
  | bringup => exact absurd rfl hb
  | read a => rw [Command.instr, exec, execRead, accepting_eq h, if_neg (by simpa [ready] using hr)]
  | write a v => rw [Command.instr, exec, execWrite, accepting_eq h, if_neg (by simpa [ready] using hr)]

theorem beforeTransaction_register (hb : c ≠ .bringup) (s : State) : beforeTransaction c s = { s with cur := some c } := by
  cases c with
  | bringup => exact absurd rfl hb
  | read a => rfl
  | write a v => rfl

/-- In Ready it is one transaction (40_register_access.md R104, R108). -/
theorem exec_instr_of_ready (hb : c ≠ .bringup) (h : Accepts s) (hr : s.seq = .ready) :
    exec c.instr s = .next (runTransaction c (beforeTransaction c s)) := by
  rw [exec_instr_ready hb h hr rfl, beforeTransaction_register hb]
  rfl

/-- Outside Idle `BRINGUP` is refused (41_sequencer.md R131). -/
theorem exec_bringup_not_idle (h : Accepts s) (hi : s.seq ≠ .idle) :
    exec .bringup s = .next (respond .notIdle none { s with cur := some .bringup }) := by
  rw [exec, execBringup, accepting_eq h, if_neg hi]

/-- In Idle it is the reset pulse and one transaction (41_sequencer.md R128). -/
theorem exec_bringup_idle (h : Accepts s) (hi : s.seq = .idle) :
    exec .bringup s = .next (runTransaction .bringup (beforeTransaction .bringup s)) := by
  have hx : (beforeTransaction .bringup s).txn = .none := h.closed
  rw [exec, execBringup, accepting_eq h, if_pos hi, runTransaction, finishCommand, lastAnswer_txnWith]
  exact transaction_eq hx rfl finishBringup

end Gate

/-! A transaction as three phases: the window is opened, the exchange returns, the window is closed
and the command ends; or the exchange hangs in the open window. -/

section Transaction

variable {s : State} {c : Command}

/-- A command whose transaction returned ends with one response and frees the CORE (30_encoding.md R91). -/
theorem finishCommand_responds (c : Command) (hr : lastAnswer s ≠ .never) : (finishCommand c s).cur = none ∧
    ∃ st d, (finishCommand c s).trace = s.trace ++ [.resp st d] ∧ DataAllowed st d := by
  by_cases hb : c = .bringup
  · subst hb
    rw [finishCommand]
    obtain ⟨_, _, -, h⟩ | ⟨-, h⟩ | ⟨hn, -⟩ := finishBringup_cases (lastAnswer s) s
    · obtain ⟨-, hj⟩ | ⟨-, hj⟩ := judge_cases (takeResult s) <;> rw [h, hj]
      · exact ⟨rfl, _, _, rfl, fun _ => .inl rfl⟩
      · exact ⟨rfl, _, _, rfl, fun _ => .inr rfl⟩
    · rw [h]
      exact ⟨rfl, _, _, rfl, nofun⟩
    · exact absurd hn hr
  · obtain ⟨hn, -⟩ | ⟨st, d, hd, h⟩ := finishCommand_register_cases hb s
    · exact absurd hn hr
    · rw [h]
      exact ⟨rfl, st, d, rfl, hd⟩

theorem exchangeWith_txn {r : Answer} (hr : r ≠ .never) (t0 t1 : Byte) (s : State) :
    (exchangeWith r t0 t1 s).txn = .exchanged := by
  cases r with
  | ok r0 r1 => rfl
  | fail => rfl
  | never => exact absurd rfl hr

theorem txnWith_of_returned {r : Answer} (hr : r ≠ .never) (t0 t1 : Byte) (s : State) :
    txnWith r t0 t1 s = closeWindow (exchangeWith r t0 t1 (openWindow t0 t1 s)) := by
  cases r with
  | ok r0 r1 => rfl
  | fail => rfl
  | never => exact absurd rfl hr

/-- A command whose exchange does not return stays inside its window (60_exceptions.md R154). -/
theorem runTransaction_never (hr : s.env.answer (commandFrame s.params c).1 (commandFrame s.params c).2 = .never) :
    runTransaction c s = openWindow (commandFrame s.params c).1 (commandFrame s.params c).2 s := by
  rw [runTransaction, hr]
  exact finishCommand_openWindow c _ _ s

/-- One that returned is freed by its response. -/
theorem runTransaction_returned_cur
    (hr : s.env.answer (commandFrame s.params c).1 (commandFrame s.params c).2 ≠ .never) :
    (runTransaction c s).cur = none := by
  refine (finishCommand_responds c ?_).1
  rwa [lastAnswer_txnWith]

/-- From the opening of its window a command takes three phases, or hangs in the second. -/
theorem resume_transaction (hc : s.cur = some c) (hx : s.txn = .none)
    (hb : begin c s = openWindow (commandFrame s.params c).1 (commandFrame s.params c).2 s) (n : Nat) :
    resume (n + 3) s = .next (runTransaction c s) := by
  by_cases hr : s.env.answer (commandFrame s.params c).1 (commandFrame s.params c).2 = .never
  · rw [resume_begin hc hx hb, runTransaction_never hr]
    exact resume_hung (by simp [hung, hc, hr]) _
  · let opened := openWindow (commandFrame s.params c).1 (commandFrame s.params c).2 s
    let returned := exchange (commandFrame s.params c).1 (commandFrame s.params c).2 opened
    have hexch : advance opened = .next returned := by
      rw [advance_selected (s := opened) hc rfl, exchangeLatched_eq (s := opened) rfl rfl]
    have hcur : returned.cur = some c := (exchangeWith_cur _ _ _ _).trans hc
    have hend : finishCommand c (closeWindow returned) = runTransaction c s := by
      rw [runTransaction, txnWith_of_returned hr]
      rfl
    calc resume (n + 3) s
      _ = resume (n + 2) opened := resume_begin hc hx hb _
      _ = resume (n + 1) returned := resume_succ (s := opened) hc hexch _
      _ = resume n (runTransaction c s) :=
        hend ▸ resume_succ hcur (advance_exchanged hcur (exchangeWith_txn hr _ _ _)) _
      _ = .next (runTransaction c s) := resume_free (runTransaction_returned_cur hr) n

end Transaction

/-- The sequence of `BRINGUP` from Idle to Verify is four phases (41_sequencer.md R128). -/
theorem resume_resetPulse {s : State} (hc : s.cur = some .bringup) (hx : s.txn = .none) (hi : s.seq = .idle) (n : Nat) :
    resume (n + 4) s = resume n (resetPulse s) :=
  calc resume (n + 4) s
    _ = resume (n + 3) (enterHeldHigh s) := resume_begin hc hx (begin_idle hi) _
    _ = resume (n + 2) (enterAsserted (holdHigh (enterHeldHigh s))) := 
      resume_begin (s := enterHeldHigh s) hc hx (begin_heldHigh rfl) _
    _ = resume (n + 1) (enterSettling (holdLow (enterAsserted (holdHigh (enterHeldHigh s))))) :=
      resume_begin (s := enterAsserted (holdHigh (enterHeldHigh s))) hc hx (begin_asserted rfl) _
    _ = resume n (resetPulse s) :=
      resume_begin (s := enterSettling (holdLow (enterAsserted (holdHigh (enterHeldHigh s))))) hc hx (begin_settling rfl) _

/-- A register command is one phase where it is refused, and the three of its transaction where it
is not. -/
theorem exec_instr_eq_resume {c : Command} {s : State} (hb : c ≠ .bringup) (h : Accepts s) :
    exec c.instr s = resume longestCommand { s with cur := some c } := by
  let s' : State := { s with cur := some c }
  have hcur : s'.cur = some c := rfl
  by_cases hr : s.seq = .ready
  · rw [exec_instr_of_ready hb h hr, beforeTransaction_register hb]
    exact (resume_transaction hcur h.closed (begin_ready hb hr) 4).symm
  · rw [exec_instr_not_ready hb h hr]
    calc Host.Outcome.next (respond .gateClosed none s')
      _ = resume 6 (respond .gateClosed none s') := (resume_free rfl 6).symm
      _ = resume longestCommand s' := (resume_begin hcur h.closed (begin_not_ready hb hr) 6).symm

/-- `BRINGUP` is one phase where it is refused, and where it is not the four of its pulse and the
three of its transaction. -/
theorem exec_bringup_eq_resume {s : State} (hseq : s.seq = .idle ∨ s.seq = .ready ∨ s.seq = .fatal) (h : Accepts s) :
    exec .bringup s = resume longestCommand { s with cur := some .bringup } := by
  let s' : State := { s with cur := some .bringup }
  have hcur : s'.cur = some .bringup := rfl
  by_cases hi : s.seq = .idle
  · have hpulsed : (resetPulse s').cur = some .bringup := rfl
    calc exec .bringup s
      _ = .next (runTransaction .bringup (resetPulse s')) := exec_bringup_idle h hi
      _ = resume 3 (resetPulse s') := (resume_transaction hpulsed h.closed (begin_verify rfl) 0).symm
      _ = resume longestCommand s' := (resume_resetPulse hcur h.closed hi 3).symm
  · rw [exec_bringup_not_idle h hi]
    calc Host.Outcome.next (respond .notIdle none s')
      _ = resume 6 (respond .notIdle none s') := (resume_free rfl 6).symm
      _ = resume longestCommand s' := (resume_begin hcur h.closed (begin_over (hseq.resolve_left hi)) 6).symm

/-- Settles O22: the phases of a command are those of its refusal, its pulse and its transaction. -/
theorem phasesRefineCommands : Obligations.PhasesRefineCommands := by
  intro c s hs h
  by_cases hb : c = .bringup
  · subst hb
    exact exec_bringup_eq_resume (hs.inv.atRest h.free).2 h
  · exact exec_instr_eq_resume hb h

/-! Every step is a reset of the CORE, a run of phases, a refusal of the reserved word, or nothing. -/

section Step

variable {s t : State}

theorem coreReset_safe (s : State) : Safe (coreReset s) :=
  safe_of_closed (recorded_of_unjudged ⟨rfl, rfl⟩ rfl nofun nofun) (.inr (.inl rfl)) rfl rfl

/-- R41 says nothing of the host, the trace and the environment. -/
theorem Safe.withHost (hs : Safe s) (acts : List HostAction) : Safe { s with host := acts } :=
  ⟨{ hs.inv with }, { hs.inProgress with }⟩

/-- Accepting a command leaves a free CORE safe (10_state.md R24). -/
theorem Safe.accept (hs : Safe s) (hc : s.cur = none) (c : Command) : Safe { s with cur := some c } := by
  obtain ⟨hx, hq⟩ := hs.inv.atRest hc
  exact safe_of_closed (hs.recorded.congr rfl rfl) (.inr hq) hx (hs.inv.released hx)

/-- A run of phases from a safe state ends in one. -/
theorem Safe.resume (hs : Safe s) {n : Nat} (h : resume n s = .next t) : Safe t :=
  resume_keeps (fun _ _ => Safe.advance) n hs h

/-- A pending frame is that of the command in progress, whose next phase opens its window
(40_register_access.md R103). -/
theorem pendingFrame_cases {c : Command} {i : Instr} (hc : s.cur = some c) (hp : pendingFrame s = some i) :
    s.txn = .none ∧ begin c s = openWindow (commandFrame s.params c).1 (commandFrame s.params c).2 s ∧
      exec i s = guarded s (transaction (commandFrame s.params c).1 (commandFrame s.params c).2 fun _ s => s) := by
  cases hx : s.txn with
  | none =>
    refine ⟨rfl, ?_⟩
    cases c with
    | read a =>
      obtain ⟨hr, rfl⟩ : ready s = true ∧ .readFrame a = i := by simpa [pendingFrame, hx, hc] using hp
      exact ⟨if_pos hr, rfl⟩
    | write a v =>
      obtain ⟨hr, rfl⟩ : ready s = true ∧ .writeFrame a v = i := by simpa [pendingFrame, hx, hc] using hp
      exact ⟨if_pos hr, rfl⟩
    | bringup =>
      obtain ⟨hv, rfl⟩ : s.seq = .verify ∧ .readFrame s.params.idAddr = i := by simpa [pendingFrame, hx, hc] using hp
      exact ⟨begin_verify hv, rfl⟩
  | selected => simp [pendingFrame, hx] at hp
  | exchanged => simp [pendingFrame, hx] at hp

/-- Running a pending frame and the end of its command is the transaction of that command. -/
theorem finishCommand_pendingFrame {c : Command} {i : Instr} {u : State} (hc : s.cur = some c)
    (hp : pendingFrame s = some i) (hu : exec i s = .next u) :
    finishCommand c u = runTransaction c s ∧ Machine.resume 3 s = .next (runTransaction c s) := by
  obtain ⟨hx, hb, hexec⟩ := pendingFrame_cases hc hp
  rw [hexec] at hu
  obtain ⟨-, rfl⟩ := transaction_next (guarded_next hu).2
  exact ⟨rfl, resume_transaction hc hx hb 0⟩

/-- A word run by a safe free CORE leaves it safe. -/
theorem Safe.exec_decodeCommand (hs : Safe s) (ha : Accepts s) {w : CommandWord}
    (h : exec (decodeCommand w) s = .next t) : Safe t := by
  have hq := (hs.inv.atRest ha.free).2
  obtain hw | ⟨c, hw⟩ := decodeCommand_cases w <;> rw [hw] at h
  · obtain ⟨hn, -⟩ | ⟨-, rfl⟩ := execReserved_next h
    · exact absurd ha.free hn
    · exact hs.respond ha.closed hq _ _
  · rw [phasesRefineCommands c s hs ha] at h
    exact (hs.accept ha.free c).resume h

/-- Settles O29: a step runs phases, and they keep the invariants; a refusal of the reserved word and a
reset of the CORE leave nothing in progress. -/
theorem stepKeepsSafe : Obligations.StepKeepsSafe := by
  intro s t hs h
  obtain ⟨hl, ⟨rest, -, hr⟩ | ⟨-, ⟨c, i, u, hc, hp, hu, rfl⟩ | ⟨c, -, -, hr⟩ | ⟨w, rest, -, hc, hw⟩ | ⟨-, -, rfl⟩⟩⟩ :=
    step_next h
  · obtain ⟨-, rfl⟩ | ⟨-, rfl⟩ := takeReset_next hr
    · exact coreReset_safe _
    · exact coreReset_safe _
  · obtain ⟨ht, hrun⟩ := finishCommand_pendingFrame hc hp hu
    rw [ht]
    exact hs.resume hrun
  · exact hs.resume hr
  · exact (hs.withHost rest).exec_decodeCommand ⟨hl, hc, (hs.inv.atRest hc).1⟩ hw
  · exact hs

end Step

end Sys2Proof.Machine
end

section
/-! PROOF. One step of the machine, case by case of what the host does and of what is in progress
(10_state.md R24; 70_reset_and_hazards.md R180 to R183), and the steps of staged words. -/

namespace Sys2Proof.Machine

section StepEquations

variable {s : State} {c : Command} {rest : List HostAction}

/-! A step under a legal configuration (00_scope.md R9). -/

theorem step_coreReset (hl : paramsLegal s.params = true) (hh : s.host = .coreReset :: rest) :
    step s = takeReset { s with host := rest } := by
  simp [step, guarded_eq hl, hh]

theorem step_word {w : CommandWord} (hl : paramsLegal s.params = true) (hc : s.cur = none) (hh : s.host = .word w :: rest) :
    step s = exec (decodeCommand w) { s with host := rest } := by
  simp [step, guarded_eq hl, hh, hc]

theorem step_waits (hl : paramsLegal s.params = true) (hc : s.cur = none) (hh : s.host = []) : step s = .next s := by
  simp [step, guarded_eq hl, hh, hc]

/-- A command in progress is finished whatever its host offers, unless that is a reset. -/
theorem step_pendingFrame {i : Instr} (hl : paramsLegal s.params = true) (hreset : ¬ ResetNext s) (hc : s.cur = some c)
    (hp : pendingFrame s = some i) : step s = andThen (exec i s) (finishCommand c) := by
  cases hh : s.host with
  | nil => simp [step, guarded_eq hl, hh, hc, hp]
  | cons act rest =>
    cases act with
    | word w => simp [step, guarded_eq hl, hh, hc, hp]
    | coreReset => exact absurd ⟨rest, hh⟩ hreset

theorem step_resume (hl : paramsLegal s.params = true) (hreset : ¬ ResetNext s) (hc : s.cur = some c)
    (hp : pendingFrame s = none) : step s = resume longestCommand s := by
  cases hh : s.host with
  | nil => simp [step, guarded_eq hl, hh, hc, hp]
  | cons act rest =>
    cases act with
    | word w => simp [step, guarded_eq hl, hh, hc, hp]
    | coreReset => exact absurd ⟨rest, hh⟩ hreset

/-! The three readings of a core-reset event (70_reset_and_hazards.md R183). -/

theorem takeReset_free (hc : s.cur = none) : takeReset s = .next (coreReset s) := by
  simp [takeReset, busy, hc]

theorem takeReset_running (hc : s.cur ≠ none) (hh : hung s = false) : takeReset s = .refused .resetWhileRunning := by
  simp [takeReset, busy, Option.isSome_iff_ne_none.2 hc, hh]

/-- What a hang is (60_exceptions.md R154). -/
theorem hung_cases (h : hung s = true) : ∃ c, s.cur = some c ∧ s.txn = .selected := by
  unfold hung at h
  split at h
  · exact ⟨_, ‹_›, ‹_›⟩
  · cases h

theorem takeReset_hung (h : hung s = true) : takeReset s = .next (coreReset { s with env := s.env.abandoned }) := by
  obtain ⟨c, hc, -⟩ := hung_cases h
  simp [takeReset, busy, hc, h]

/-- In a hang no frame is pending: it is on the wire. -/
theorem pendingFrame_hung (h : hung s = true) : pendingFrame s = none := by
  obtain ⟨c, hc, hx⟩ := hung_cases h
  simp [pendingFrame, hc, hx]

/-! What the guards refuse. -/

theorem guarded_illegal (hl : paramsLegal s.params = false) (k : State → Result) :
    guarded s k = .refused .illegalConfiguration := by
  simp [guarded, hl]

theorem accepting_illegal (hl : paramsLegal s.params = false) (c : Option Command) (k : State → Result) :
    accepting c s k = .refused .illegalConfiguration :=
  guarded_illegal hl _

theorem accepting_busy (hl : paramsLegal s.params = true) (hc : s.cur ≠ none) (c : Option Command) (k : State → Result) :
    accepting c s k = .next s := by
  simp [accepting, guarded_eq hl, busy, Option.isSome_iff_ne_none.2 hc]

theorem transaction_windowOpen (hx : s.txn ≠ .none) (t0 t1 : Byte) (k : Answer → State → State) :
    transaction t0 t1 k s = .refused .windowOpen := by
  rw [transaction, if_neg hx]

/-- A busy CORE takes no command word (10_state.md R24). -/
theorem exec_decodeCommand_busy (hl : paramsLegal s.params = true) (hc : s.cur ≠ none) (w : CommandWord) :
    exec (decodeCommand w) s = .next s := by
  obtain hw | ⟨c, hw⟩ := decodeCommand_cases w <;> rw [hw]
  · rw [exec, execReserved, accepting_busy hl hc]
  · cases c with
    | read a => rw [Command.instr, exec, execRead, accepting_busy hl hc]
    | write a v => rw [Command.instr, exec, execWrite, accepting_busy hl hc]
    | bringup => rw [Command.instr, exec, execBringup, accepting_busy hl hc]

end StepEquations

/-- Settles O45: the host is heard, and its word is run. -/
theorem stepRunsOfferedWord : Obligations.StepRunsOfferedWord := fun _ _ _ => step_word

/-- Settles O46: a command in progress is finished, from its frame on. -/
theorem stepRunsPendingFrame : Obligations.StepRunsPendingFrame := fun _ _ _ => step_pendingFrame

/-- Settles O47: with nothing in progress and no word, only a reset does anything. -/
theorem freeCoreWaitsOrResets : Obligations.FreeCoreWaitsOrResets := by
  refine fun s hl hc => ⟨step_waits hl hc, fun rest hh => ?_⟩
  rw [step_coreReset hl hh]
  exact takeReset_free hc

/-- Settles O48: a command in progress that is not hung runs normally. -/
theorem resetWhileRunningIsRefused : Obligations.ResetWhileRunningIsRefused := by
  intro s rest hl hc hhung hh
  rw [step_coreReset hl hh]
  exact takeReset_running hc hhung

/-- Settles O20: the phase of a hang changes nothing, and a reset ends the hung exchange with it. -/
theorem hangLastsUntilReset : Obligations.HangLastsUntilReset := by
  refine fun s h => ⟨fun hreset => ?_, fun rest hh => ?_⟩
  · obtain ⟨c, hc, -⟩ := hung_cases h.pending
    rw [step_resume h.legal hreset hc (pendingFrame_hung h.pending), resume_hung h.pending]
  · rw [step_coreReset h.legal hh]
    exact takeReset_hung (s := { s with host := rest }) h.pending

/-- Settles O9: a transaction asks for a closed window. -/
theorem frameInsideWindowIsRefused : Obligations.FrameInsideWindowIsRefused := fun _ _ _ hl hx =>
  ⟨(guarded_eq hl _).trans (transaction_windowOpen hx _ _ _), (guarded_eq hl _).trans (transaction_windowOpen hx _ _ _)⟩

/-- Settles O50: every instruction and every step is guarded by the constraints. -/
theorem illegalConfigurationIsRefused : Obligations.IllegalConfigurationIsRefused := by
  refine ⟨fun p => by simp [paramsLegal, and_assoc], fun s i hl => ⟨guarded_illegal hl _, ?_⟩⟩
  cases i with
  | read a => rw [exec, execRead, accepting_illegal hl]
  | write a v => rw [exec, execWrite, accepting_illegal hl]
  | bringup => rw [exec, execBringup, accepting_illegal hl]
  | reserved => rw [exec, execReserved, accepting_illegal hl]
  | writeFrame a v => exact guarded_illegal hl _
  | readFrame a => exact guarded_illegal hl _

/-! The words of the opcode table as the host offers them (log 14). -/

theorem withFetchWord_command (w : CommandWord) (s : State) : s.withFetchWord 17 w.toNat = stageCommand w s := by
  have hcode : codeOfTableWord 17 w.toNat = .ok (.command w) := by
    rw [codeOfTableWord, if_neg (by decide), if_pos w.isLt, BitVec.ofNat_toNat, BitVec.setWidth_eq]
  simp only [State.withFetchWord, stageTableWord, hcode, stage]

theorem withFetchWord_frame (f : Frame) (s : State) : s.withFetchWord 16 f.toNat = stage (.frame f) s := by
  have hcode : codeOfTableWord 16 f.toNat = .ok (.frame f) := by
    rw [codeOfTableWord, if_pos (by decide), if_pos f.isLt, BitVec.ofNat_toNat, BitVec.setWidth_eq]
  simp only [State.withFetchWord, stageTableWord, hcode]

theorem stage_writeFrame (a : Addr) (v : Byte) (s : State) :
    stage (.frame (1#1 ++ a ++ v)) s = stageTransaction (.write a v) s := by
  simp only [stage, decodeFrame_write]

theorem stage_readFrame (a : Addr) (s : State) :
    stage (.frame (0#1 ++ a ++ 0#8)) s = stageTransaction (.read a) s := by
  simp only [stage, decodeFrame_zero, if_pos]

/-- A staged transaction has no reset in front of it (log 14). -/
theorem not_resetNext_stageTransaction (c : Command) (s : State) : ¬ ResetNext (stageTransaction c s) := by
  rintro ⟨rest, h⟩
  have hhead := List.head?_dropWhile_not (· == .coreReset) s.host
  rw [show s.host.dropWhile (· == .coreReset) = .coreReset :: rest from h] at hhead
  simp at hhead

/-- Settles O51: staging puts the word where `step` looks for it, with nothing in front of it. -/
theorem stagedWordRunsNext : Obligations.StagedWordRunsNext := by
  refine fun s hl => ⟨fun w => ?_, fun a v => ?_, fun a => ?_⟩
  · rw [withFetchWord_command]
    exact step_word (s := stageCommand w s) hl rfl rfl
  · have hstage : s.withFetchWord 16 (1#1 ++ a ++ v).toNat = stageTransaction (.write a v) s :=
      (withFetchWord_frame _ s).trans (stage_writeFrame a v s)
    rw [hstage]
    exact step_pendingFrame hl (not_resetNext_stageTransaction _ s) rfl rfl
  · have hstage : s.withFetchWord 16 (0#1 ++ a ++ 0#8).toNat = stageTransaction (.read a) s :=
      (withFetchWord_frame _ s).trans (stage_readFrame a s)
    rw [hstage]
    exact step_pendingFrame hl (not_resetNext_stageTransaction _ s) rfl rfl

end Sys2Proof.Machine
end

section
/-! PROOF. What everything but a reset of the CORE carries on: the configuration, the host's actions
and the earlier history stay, the trace only grows (00_scope.md R10; 92_eei_decisions.md D16), and
the registers of the reference peripheral stay canonical. -/

namespace Sys2Proof.Machine

/-- `t` carries on from `s` in the same run of the CORE. -/
structure Continues (s t : State) : Prop where
  params : t.params = s.params
  host : t.host = s.host
  history : t.history = s.history
  trace : s.trace <+: t.trace
  memory : s.env.memoryWf = true → t.env.memoryWf = true

theorem Continues.refl (s : State) : Continues s s := ⟨rfl, rfl, rfl, List.prefix_rfl, id⟩

theorem Continues.trans {s t u : State} (h : Continues s t) (h' : Continues t u) : Continues s u :=
  ⟨h'.params.trans h.params, h'.host.trans h.host, h'.history.trans h.history, h.trace.trans h'.trace,
    h'.memory ∘ h.memory⟩

/-! Each operation of the CORE carries on. -/

section Operations

variable (s : State)

theorem continues_respond (st : Status) (d : Option Byte) : Continues s (respond st d s) :=
  ⟨rfl, rfl, rfl, List.prefix_append _ _, id⟩

theorem continues_enterFatal (st : Status) (d : Option Byte) : Continues s (enterFatal st d s) :=
  ⟨rfl, rfl, rfl, List.prefix_append _ _, id⟩

theorem continues_delay (n : Nat) : Continues s (delay n s) :=
  ⟨rfl, rfl, rfl, List.prefix_append _ _, id⟩

theorem continues_setLine_rst (l : Level) : Continues s (setLine .rst l s) :=
  ⟨rfl, rfl, rfl, List.prefix_append _ _, Env.onLine_memoryWf .rst l⟩

theorem continues_openWindow (t0 t1 : Byte) : Continues s (openWindow t0 t1 s) :=
  ⟨rfl, rfl, rfl, List.prefix_append _ _, id⟩

theorem continues_closeWindow : Continues s (closeWindow s) :=
  ⟨rfl, rfl, rfl, List.prefix_append _ _, id⟩

theorem continues_exchangeWith (r : Answer) (t0 t1 : Byte) : Continues s (exchangeWith r t0 t1 s) := by
  cases r with
  | ok r0 r1 => exact ⟨rfl, rfl, rfl, List.prefix_append _ _, Env.taken_memoryWf _ _ _⟩
  | fail => exact ⟨rfl, rfl, rfl, List.prefix_append _ _, Env.taken_memoryWf _ _ _⟩
  | never => exact Continues.refl s

theorem continues_txnWith (r : Answer) (t0 t1 : Byte) : Continues s (txnWith r t0 t1 s) := by
  by_cases hr : r = .never
  · rw [hr]
    exact continues_openWindow s t0 t1
  · rw [txnWith_of_returned hr]
    exact ((continues_openWindow s t0 t1).trans (continues_exchangeWith _ r t0 t1)).trans (continues_closeWindow _)

/-- Each of the three steps of the reset pulse drives the line, moves SEQ and holds. -/
theorem continues_enterHeldHigh : Continues s (enterHeldHigh s) := { continues_setLine_rst s .high with }

theorem continues_enterAsserted : Continues s (enterAsserted s) := { continues_setLine_rst s .low with }

theorem continues_enterSettling : Continues s (enterSettling s) := { continues_setLine_rst s .high with }

theorem continues_enterVerify : Continues s (enterVerify s) := { Continues.refl s with }

theorem continues_resetPulse : Continues s (resetPulse s) :=
  ((((((continues_enterHeldHigh s).trans (continues_delay _ _)).trans (continues_enterAsserted _)).trans
    (continues_delay _ _)).trans (continues_enterSettling _)).trans (continues_delay _ _)).trans (continues_enterVerify _)

theorem continues_takeResult : Continues s (takeResult s) := { Continues.refl s with }

theorem continues_judge : Continues s (judge s) := by
  obtain ⟨-, h⟩ | ⟨-, h⟩ := judge_cases s <;> rw [h]
  · exact { continues_respond s .ok s.rx1 with }
  · exact { continues_enterFatal s .identityMismatch s.rx1 with }

theorem continues_finishCommand (c : Command) : Continues s (finishCommand c s) := by
  have htake := continues_takeResult s
  by_cases hb : c = .bringup
  · subst hb
    rw [finishCommand]
    obtain ⟨_, _, -, h⟩ | ⟨-, h⟩ | ⟨-, h⟩ := finishBringup_cases (lastAnswer s) s <;> rw [h]
    · exact htake.trans (continues_judge _)
    · exact htake.trans (continues_enterFatal _ _ _)
    · exact Continues.refl s
  · obtain ⟨-, h⟩ | ⟨st, d, -, h⟩ := finishCommand_register_cases hb s <;> rw [h]
    · exact Continues.refl s
    · exact htake.trans (continues_respond _ st d)

theorem continues_begin (c : Command) : Continues s (begin c s) := by
  by_cases hb : c = .bringup
  · subst hb
    cases hq : s.seq with
    | idle => rw [begin_idle hq]; exact continues_enterHeldHigh s
    | heldHigh => rw [begin_heldHigh hq]; exact (continues_delay s _).trans (continues_enterAsserted _)
    | asserted => rw [begin_asserted hq]; exact (continues_delay s _).trans (continues_enterSettling _)
    | settling => rw [begin_settling hq]; exact (continues_delay s _).trans (continues_enterVerify _)
    | verify => rw [begin_verify hq]; exact continues_openWindow s _ _
    | ready => rw [begin_over (.inl hq)]; exact continues_respond s _ _
    | fatal => rw [begin_over (.inr hq)]; exact continues_respond s _ _
  · by_cases hr : s.seq = .ready
    · rw [begin_ready hb hr]; exact continues_openWindow s _ _
    · rw [begin_not_ready hb hr]; exact continues_respond s _ _

theorem continues_exchangeLatched (t0 t1 : Byte) : Continues s (exchangeLatched t0 t1 s) :=
  { continues_exchangeWith (latchFrame t0 t1 s) _ _ _ with }

theorem continues_accept (c : Option Command) : Continues s { s with cur := c } := { Continues.refl s with }

theorem continues_beforeTransaction (c : Command) : Continues s (beforeTransaction c s) := by
  cases c with
  | read a => exact continues_accept s _
  | write a v => exact continues_accept s _
  | bringup => exact (continues_accept s _).trans (continues_resetPulse _)

theorem continues_runTransaction (c : Command) : Continues s (runTransaction c s) :=
  (continues_txnWith s _ _ _).trans (continues_finishCommand _ c)

end Operations

/-! Phases, instructions and steps. -/

section Steps

variable {s t : State}

theorem continues_advance (h : advance s = .next t) : Continues s t := by
  obtain ⟨-, rfl⟩ | ⟨c, -, ⟨-, rfl⟩ | ⟨-, rfl⟩ | ⟨-, rfl⟩⟩ := advance_next h
  · exact Continues.refl _
  · exact continues_begin s c
  · exact continues_exchangeLatched s _ _
  · exact (continues_closeWindow s).trans (continues_finishCommand _ c)

theorem continues_resume {n : Nat} (h : resume n s = .next t) : Continues s t :=
  resume_keeps (P := Continues s) (fun _ _ hu hv => hu.trans (continues_advance hv)) n (Continues.refl s) h

theorem continues_exec_instr {c : Command} (h : exec c.instr s = .next t) : Continues s t := by
  obtain ⟨-, rfl⟩ | ⟨-, st, rfl⟩ | ⟨-, -, rfl⟩ := exec_instr_next h
  · exact Continues.refl _
  · exact (continues_accept s _).trans (continues_respond _ _ _)
  · exact (continues_beforeTransaction s c).trans (continues_runTransaction _ c)

theorem continues_exec {i : Instr} (h : exec i s = .next t) : Continues s t := by
  cases i with
  | read a => exact continues_exec_instr (c := .read a) h
  | write a v => exact continues_exec_instr (c := .write a v) h
  | bringup => exact continues_exec_instr (c := .bringup) h
  | reserved =>
    obtain ⟨-, rfl⟩ | ⟨-, rfl⟩ := execReserved_next h
    · exact Continues.refl _
    · exact continues_respond s _ _
  | writeFrame a v =>
    obtain ⟨-, rfl⟩ := execWriteFrame_next h
    exact continues_txnWith s _ _ _
  | readFrame a =>
    obtain ⟨-, rfl⟩ := execReadFrame_next h
    exact continues_txnWith s _ _ _

/-- A step is a reset of the CORE, or carries on once the host's word, if a free CORE takes one, is off
the list. -/
theorem step_cases (h : step s = .next t) :
    (ResetNext s ∧ ∃ rest e, (s.env.memoryWf = true → e.memoryWf = true) ∧ t = coreReset { s with host := rest, env := e }) ∨
      (¬ ResetNext s ∧ ∃ acts, (s.cur ≠ none → acts = s.host) ∧ Continues { s with host := acts } t) := by
  obtain ⟨-, ⟨rest, hh, hr⟩ | ⟨hn, hs⟩⟩ := step_next h
  · refine .inl ⟨⟨rest, hh⟩, rest, ?_⟩
    obtain ⟨-, rfl⟩ | ⟨-, rfl⟩ := takeReset_next hr
    · exact ⟨s.env, id, rfl⟩
    · exact ⟨s.env.abandoned, Env.abandoned_memoryWf, rfl⟩
  · refine .inr ⟨fun ⟨rest, hh⟩ => hn rest hh, ?_⟩
    obtain ⟨c, i, u, -, -, hu, rfl⟩ | ⟨c, -, -, hr⟩ | ⟨w, rest, -, hc, hw⟩ | ⟨-, -, rfl⟩ := hs
    · exact ⟨s.host, fun _ => rfl, (continues_exec hu).trans (continues_finishCommand u c)⟩
    · exact ⟨s.host, fun _ => rfl, continues_resume hr⟩
    · exact ⟨rest, fun hbusy => absurd hc hbusy, continues_exec hw⟩
    · exact ⟨t.host, fun _ => rfl, Continues.refl t⟩

end Steps

/-- Settles O33: an exchange stores below address 128, the reset pulse reloads a canonical map, and
nothing else writes either map. -/
theorem stepKeepsMemoryCanonical : Obligations.StepKeepsMemoryCanonical := by
  intro s t hwf h
  obtain ⟨-, rest, e, he, rfl⟩ | ⟨-, acts, -, ht⟩ := step_cases h
  · exact he hwf
  · exact ht.memory hwf

/-- Settles O34: nothing writes the configuration, and a step is guarded by its constraints. -/
theorem stepKeepsConfiguration : Obligations.StepKeepsConfiguration := by
  intro s t h
  refine ⟨?_, (illegalConfigurationIsRefused.1 s.params).1 (step_next h).1⟩
  obtain ⟨-, rest, e, -, rfl⟩ | ⟨-, acts, -, ht⟩ := step_cases h
  · rfl
  · exact ht.params

/-- Settles O35: a reset moves the trace into the history, and everything else appends to it. -/
theorem traceOnlyGrows : Obligations.TraceOnlyGrows := by
  intro s t h
  obtain ⟨-, rest, e, -, rfl⟩ | ⟨hn, acts, -, ht⟩ := step_cases h
  · have hwhole : wholeTrace (coreReset { s with host := rest, env := e }) = wholeTrace s := List.append_nil _
    exact ⟨⟨[], by rw [hwhole, List.append_nil]⟩, fun _ => hwhole⟩
  · obtain ⟨es, hes⟩ := ht.trace
    refine ⟨⟨es, ?_⟩, fun hr => absurd hr hn⟩
    rw [wholeTrace, wholeTrace, ht.history, ← hes, List.append_assoc]

/-- Settles O49: the host's list is read by a free CORE only, and `exec` asks whether the CORE is busy. -/
theorem busyCoreTakesNoWord : Obligations.BusyCoreTakesNoWord := by
  refine ⟨fun s t hc hreset h => ?_, fun w s hl hc => exec_decodeCommand_busy hl hc w⟩
  obtain ⟨hr, -⟩ | ⟨-, acts, hacts, ht⟩ := step_cases h
  · exact absurd hr hreset
  · exact ht.host.trans (hacts hc)

end Sys2Proof.Machine
end

section
/-! PROOF. What each command does to a CORE that accepts it, as one update of its state
(40_register_access.md section 1 to 4; 41_sequencer.md section 1): a refusal, a transaction that
returned, or a hang. -/

namespace Sys2Proof.Machine

/-! A transaction with its events named (40_register_access.md R100). -/

section Windows

variable (t0 t1 : Byte) (s : State)

theorem txnWith_ok_windowEvents (r0 r1 : Byte) : txnWith (.ok r0 r1) t0 t1 s =
    { s with
      txn := .none, cs := csDeasserted s.params, tx0 := some t0, tx1 := some t1
      rx0 := some r0, rx1 := some r1, result := some (.ok r0 r1), env := s.env.taken s.params.idAddr t0 t1
      trace := s.trace ++ windowEvents s.params (.xchg t0 t1 r0 r1) } := by
  simp [txnWith_ok, windowEvents]

theorem txnWith_fail_windowEvents : txnWith .fail t0 t1 s =
    { s with
      txn := .none, cs := csDeasserted s.params, tx0 := some t0, tx1 := some t1
      rx0 := none, rx1 := none, result := some .fail, env := s.env.taken s.params.idAddr t0 t1
      trace := s.trace ++ windowEvents s.params (.xchgFail t0 t1) } := by
  simp [txnWith_fail, windowEvents]

/-- The reset pulse with its events named (41_sequencer.md R121 to R124). -/
theorem resetPulse_eq : resetPulse s =
    { s with
      seq := .verify, rst := some .high, env := s.env.onLine .rst .low
      trace := s.trace ++ pulseEvents s.params } := by
  have htrace : (resetPulse s).trace = s.trace ++ pulseEvents s.params := by simp [pulseEvents]
  rw [← htrace]
  rfl

/-- A response to a command a free CORE has just accepted: nothing else changes. -/
theorem respond_of_free {s : State} (hc : s.cur = none) (c : Option Command) (st : Status) (d : Option Byte) :
    respond st d { s with cur := c } = { s with trace := s.trace ++ [.resp st d] } := by
  simp [respond, record, hc]

/-- The response of a command that has returned from its transaction, as one update. -/
theorem respond_takeResult (st : Status) (d : Option Byte) : respond st d (takeResult s) =
    { s with cur := none, result := none, trace := s.trace ++ [.resp st d] } := rfl

end Windows

/-! The frames. -/

theorem exec_frame {i : Instr} {t0 t1 : Byte} {s : State}
    (hi : (∃ a v, i = .writeFrame a v ∧ t0 = writeFirstByte a ∧ t1 = v) ∨
      ∃ a, i = .readFrame a ∧ t0 = readFirstByte a ∧ t1 = 0x00)
    (hl : paramsLegal s.params = true) (hx : s.txn = .none) {r : Answer} (hr : Answers s t0 t1 r) :
    exec i s = .next (txnWith r t0 t1 s) := by
  obtain ⟨a, v, rfl, rfl, rfl⟩ | ⟨a, rfl, rfl, rfl⟩ := hi
  · exact (guarded_eq hl _).trans (transaction_eq hx hr _)
  · exact (guarded_eq hl _).trans (transaction_eq hx hr _)

/-- Settles O8: either frame is one transaction and nothing more. -/
theorem frameIsOneTransaction : Obligations.FrameIsOneTransaction := by
  refine fun i t0 t1 hi s hl hx => ⟨fun r0 r1 hr => ?_, fun hr => ?_, fun hr => ?_⟩
  · rw [exec_frame hi hl hx hr, txnWith_ok_windowEvents, ← hx]
  · rw [exec_frame hi hl hx hr, txnWith_fail_windowEvents, ← hx]
  · rw [exec_frame hi hl hx hr, txnWith_never]

/-! The register commands. -/

/-- Settles O10: the response takes the byte from `RX1` and the result from `Txn`. -/
theorem readThroughOpenGate : Obligations.ReadThroughOpenGate := by
  refine fun a s h hr => ⟨fun r0 r1 ha => ?_, fun ha => ?_⟩
  · rw [execRead_ready h hr ha, txnWith_ok_windowEvents]
    simp [finishRead, respond_takeResult, h.free, h.closed, Literal.filler]
  · rw [execRead_ready h hr ha, txnWith_fail_windowEvents]
    simp [finishRead, respond_takeResult, h.free, h.closed, Literal.filler]

/-- Settles O11: the response takes no byte at all. -/
theorem writeThroughOpenGate : Obligations.WriteThroughOpenGate := by
  refine fun a v s h hr => ⟨fun r0 r1 ha => ?_, fun ha => ?_⟩
  · rw [execWrite_ready h hr ha, txnWith_ok_windowEvents]
    simp [finishWrite, respond_takeResult, h.free, h.closed]
  · rw [execWrite_ready h hr ha, txnWith_fail_windowEvents]
    simp [finishWrite, respond_takeResult, h.free, h.closed]

/-- Settles O12: the gate is asked before anything is sent. -/
theorem gateClosedOutsideReady : Obligations.GateClosedOutsideReady := by
  intro a v s h hr
  refine ⟨(exec_instr_not_ready (c := .read a) (by simp) h hr).trans ?_,
    (exec_instr_not_ready (c := .write a v) (by simp) h hr).trans ?_⟩
  · rw [respond_of_free h.free]
  · rw [respond_of_free h.free]

/-- Settles O17: SEQ is asked before any line is driven. -/
theorem bringupOnlyFromIdle : Obligations.BringupOnlyFromIdle := by
  intro s h hi
  rw [exec_bringup_not_idle h hi, respond_of_free h.free]

/-- Settles O18: the reserved word is answered at once. -/
theorem reservedWordIsRefusedEverywhere : Obligations.ReservedWordIsRefusedEverywhere := by
  intro s h
  rw [exec, execReserved, accepting_eq h, respond_of_free h.free]

/-- The end of a register command whose exchange failed (40_register_access.md R111). -/
theorem finishCommand_fail {c : Command} {s : State} (hb : c ≠ .bringup) (hr : lastAnswer s = .fail) :
    finishCommand c s = respond .transportFailure none (takeResult s) := by
  cases c with
  | bringup => exact absurd rfl hb
  | read a => rw [finishCommand, hr, finishRead]
  | write a v => rw [finishCommand, hr, finishWrite]

/-- Settles O13: the failure is one response, and the gate does not ask for it. -/
theorem registerFailureLeavesGateOpen : Obligations.RegisterFailureLeavesGateOpen := by
  intro c s hb h hr ha
  refine ⟨_, exec_instr_ready hb h hr ha, ?_⟩
  rw [finishCommand_fail hb (lastAnswer_txnWith _ _ _ _)]
  exact ⟨⟨h.legal, rfl, rfl⟩, hr, rfl, rfl, rfl, rfl, rfl, by simp [framesSent_txnWith], by simp [responses_txnWith, responses]⟩

/-- Settles O26: the response is told from nothing that was received, and the bytes go to the receive
latches alone. -/
theorem writeDropsReceivedBytes : Obligations.WriteDropsReceivedBytes := by
  intro a v s e e' r0 r0' r1 r1' h hr he he'
  have hacc (e : Env) : Accepts { s with env := e } := ⟨h.legal, h.free, h.closed⟩
  exact ⟨_, _, execWrite_ready (hacc e) hr he, execWrite_ready (hacc e') hr he', by rw [responses_finishWrite_ok],
    by rw [responses_finishWrite_ok, responses_finishWrite_ok], by simp [framesSent_txnWith],
    by simp [framesSent_txnWith], rfl⟩

/-! `BRINGUP` from Idle. -/

theorem exec_bringup_answer {s : State} {r : Answer} (h : Accepts s) (hi : s.seq = .idle) (hr : VerifyAnswers s r) :
    exec .bringup s = .next (finishBringup r
      (txnWith r (readFirstByte s.params.idAddr) Literal.filler (resetPulse { s with cur := some .bringup }))) := by
  rw [exec_bringup_idle h hi, runTransaction, finishCommand, lastAnswer_txnWith, ← hr]
  rfl

/-- Settles O14: the second byte is compared whole, and equal it opens the gate. -/
theorem bringupMatchOpensGate : Obligations.BringupMatchOpensGate := by
  refine fun s r0 h hi hr => ⟨fun hs => (hs.inProgress.unjudged (by simp [hi]) (by simp [hi])).2, ?_⟩
  rw [exec_bringup_answer h hi hr, txnWith_ok_windowEvents, resetPulse_eq]
  simp [finishBringup, judge, respond, takeResult, record, h.free, h.closed, Literal.filler]

/-- Settles O15: any other byte is the mismatch, whichever it is. -/
theorem bringupMismatchIsFatal : Obligations.BringupMismatchIsFatal := by
  intro s r0 r1 h hi hne hr
  rw [exec_bringup_answer h hi hr, txnWith_ok_windowEvents, resetPulse_eq]
  simp [finishBringup, judge, hne, enterFatal, respond, takeResult, record, statusCode, h.free, h.closed, Literal.filler]

/-- Settles O16: a failure is fatal without a byte. -/
theorem bringupTransportFailureIsFatal : Obligations.BringupTransportFailureIsFatal := by
  intro s h hi hr
  rw [exec_bringup_answer h hi hr, txnWith_fail_windowEvents, resetPulse_eq]
  simp [finishBringup, enterFatal, respond, takeResult, record, statusCode, h.free, h.closed, Literal.filler]

/-- Settles O19: the window is opened and nothing comes after it. -/
theorem hangLeavesWindowOpen : Obligations.HangLeavesWindowOpen := by
  refine ⟨fun c s hb h hr ha => ?_, fun s h hi hr => ?_⟩
  · rw [exec_instr_ready hb h hr ha]
    exact congrArg _ (finishCommand_openWindow c _ _ _)
  · rw [exec_bringup_answer h hi hr, txnWith_never, resetPulse_eq]
    rfl

/-! What an accepted command records. -/

section Performed

variable {c : Command} {s : State}

/-- A transaction that returned is one whole window (40_register_access.md R100). -/
theorem txnWith_trace {r : Answer} (hr : r ≠ .never) (t0 t1 : Byte) (s : State) :
    ∃ e, ((∃ r0 r1, e = .xchg t0 t1 r0 r1) ∨ e = .xchgFail t0 t1) ∧
      (txnWith r t0 t1 s).trace = s.trace ++ windowEvents s.params e := by
  cases r with
  | ok r0 r1 => exact ⟨_, .inl ⟨r0, r1, rfl⟩, by rw [txnWith_ok_windowEvents]⟩
  | fail => exact ⟨_, .inr rfl, by rw [txnWith_fail_windowEvents]⟩
  | never => exact absurd rfl hr

theorem txnWith_txn {r : Answer} (hr : r ≠ .never) (t0 t1 : Byte) (s : State) : (txnWith r t0 t1 s).txn = .none := by
  rw [txnWith_of_returned hr, closeWindow_txn]

/-- The transaction of a command in progress: it hangs in its window, or it leaves the CORE free with
one window and one response more in the trace. -/
theorem runTransaction_cases (hc : s.cur = some c) :
    (hung (runTransaction c s) = true ∧ (runTransaction c s).trace = s.trace ++ [.line .cs (csAsserted s.params)]) ∨
      ((runTransaction c s).cur = none ∧ (runTransaction c s).txn = .none ∧
        ∃ e st d, ((∃ t0 t1 r0 r1, e = .xchg t0 t1 r0 r1) ∨ ∃ t0 t1, e = .xchgFail t0 t1) ∧ DataAllowed st d ∧
          (runTransaction c s).trace = s.trace ++ windowEvents s.params e ++ [.resp st d]) := by
  by_cases hr : s.env.answer (commandFrame s.params c).1 (commandFrame s.params c).2 = .never
  · rw [runTransaction_never hr]
    exact .inl ⟨by simp [hung, hc, hr], rfl⟩
  · have hlast := lastAnswer_txnWith (s.env.answer (commandFrame s.params c).1 (commandFrame s.params c).2)
      (commandFrame s.params c).1 (commandFrame s.params c).2 s
    obtain ⟨hcur, st, d, htrace, hd⟩ := finishCommand_responds c (hlast.trans_ne hr)
    obtain ⟨e, he, hwin⟩ := txnWith_trace hr (commandFrame s.params c).1 (commandFrame s.params c).2 s
    refine .inr ⟨hcur, ?_, e, st, d, ?_, hd, htrace.trans (by rw [hwin])⟩
    · rw [runTransaction, finishCommand_txn, txnWith_txn hr]
    · exact he.imp (fun ⟨r0, r1, h⟩ => ⟨_, _, r0, r1, h⟩) (fun h => ⟨_, _, h⟩)

end Performed

/-! The holds of `BRINGUP` (41_sequencer.md R129). -/

@[simp] theorem waits_append (es es' : List Event) : waits (es ++ es') = waits es ++ waits es' := by
  induction es with
  | nil => rfl
  | cons e es ih => cases e <;> simp [waits, ih]

/-- Settles O24: the pulse holds three times, and neither a window nor a response holds or drives the
reset line. -/
theorem holdsAreRequestedInOrder : Obligations.HoldsAreRequestedInOrder := by
  intro s h hi
  have hpulse : waits (pulseEvents s.params) = [s.params.tHigh, s.params.tLow, s.params.tSettle] := rfl
  have hbefore : (beforeTransaction .bringup s).trace = s.trace ++ pulseEvents s.params :=
    congrArg State.trace (resetPulse_eq { s with cur := some .bringup })
  obtain ⟨es, htrace, hd, hw⟩ : ∃ es, (runTransaction .bringup (beforeTransaction .bringup s)).trace =
      s.trace ++ pulseEvents s.params ++ .line .cs (csAsserted s.params) :: es ∧ resetDrives es = [] ∧ waits es = [] := by
    obtain ⟨-, ht⟩ | ⟨-, -, e, st, d, he, -, ht⟩ := runTransaction_cases (beforeTransaction_cur .bringup s)
    · exact ⟨[], by rw [ht, hbefore]; rfl, rfl, rfl⟩
    · refine ⟨[e, .line .cs (csDeasserted s.params), .resp st d], ?_, ?_, ?_⟩
      · rw [ht, hbefore, windowEvents, List.append_assoc]
        rfl
      · obtain ⟨_, _, _, _, rfl⟩ | ⟨_, _, rfl⟩ := he <;> rfl
      · obtain ⟨_, _, _, _, rfl⟩ | ⟨_, _, rfl⟩ := he <;> rfl
  have hwaits : waits (runTransaction .bringup (beforeTransaction .bringup s)).trace =
      waits s.trace ++ [s.params.tHigh, s.params.tLow, s.params.tSettle] := by
    simp [htrace, hpulse, waits, hw]
  obtain ⟨-, -, -, hle, -⟩ := (illegalConfigurationIsRefused.1 s.params).1 h.legal
  refine ⟨hle, rfl, _, es, exec_bringup_idle h hi, htrace, hd, hw, hwaits, ?_⟩
  simp [leastDuration, hwaits]
  ring

/-- An accepted command is refused, or is one transaction (41_sequencer.md R131, R135). -/
theorem exec_instr_accepted {s : State} (c : Command) (h : Accepts s) :
    (∃ st, exec c.instr s = .next (respond st none { s with cur := some c })) ∨
      exec c.instr s = .next (runTransaction c (beforeTransaction c s)) := by
  by_cases hb : c = .bringup
  · subst hb
    by_cases hi : s.seq = .idle
    · exact .inr (exec_bringup_idle h hi)
    · exact .inl ⟨_, exec_bringup_not_idle h hi⟩
  · by_cases hr : s.seq = .ready
    · exact .inr (exec_instr_of_ready hb h hr)
    · exact .inl ⟨_, exec_instr_not_ready hb h hr⟩

/-- Before its transaction a command answers nothing. -/
theorem beforeTransaction_trace (c : Command) (s : State) :
    ∃ es, (beforeTransaction c s).trace = s.trace ++ es ∧ responses es = [] := by
  cases c with
  | bringup => exact ⟨_, congrArg State.trace (resetPulse_eq { s with cur := some .bringup }), rfl⟩
  | read a => exact ⟨[], (List.append_nil _).symm, rfl⟩
  | write a v => exact ⟨[], (List.append_nil _).symm, rfl⟩

/-- Settles O39: a command is refused, or is one transaction, and either way ends with one response
unless it hangs. -/
theorem everyCommandEndsWithOneResponse : Obligations.EveryCommandEndsWithOneResponse := by
  intro w s h
  have hrefused (st : Status) : ([Event.resp st none]).getLast? = some (.resp st none) ∧
      responses [.resp st none] = [(st, none)] ∧ DataAllowed st none := ⟨rfl, rfl, nofun⟩
  obtain hw | ⟨c, hw⟩ := decodeCommand_cases w <;> rw [hw]
  · exact ⟨_, _, reservedWordIsRefusedEverywhere s h, rfl, .inl ⟨h.free, h.closed, _, _, hrefused .illegalCommand⟩⟩
  · obtain ⟨st, hexec⟩ | hexec := exec_instr_accepted c h
    · exact ⟨_, _, hexec, rfl, .inl ⟨rfl, h.closed, _, _, hrefused st⟩⟩
    · obtain ⟨es, hbefore, hes⟩ := beforeTransaction_trace c s
      refine ⟨runTransaction c (beforeTransaction c s), ?_⟩
      obtain ⟨hhung, ht⟩ | ⟨hcur, hx, e, st, d, he, hd, ht⟩ := runTransaction_cases (beforeTransaction_cur c s)
      · exact ⟨es ++ [.line .cs (csAsserted (beforeTransaction c s).params)], hexec, by rw [ht, hbefore, List.append_assoc],
          .inr ⟨hhung, by simp [hes, responses]⟩⟩
      · refine ⟨es ++ windowEvents (beforeTransaction c s).params e ++ [.resp st d], hexec, ?_,
          .inl ⟨hcur, hx, st, d, by simp, ?_, hd⟩⟩
        · rw [ht, hbefore]
          simp only [List.append_assoc]
        · obtain ⟨_, _, _, _, rfl⟩ | ⟨_, _, rfl⟩ := he <;> simp [hes, responses, windowEvents]

/-! What opens the gate (41_sequencer.md section 2). -/

/-- The one way `BRINGUP` ends in Ready (41_sequencer.md R125). -/
theorem bringup_opens_gate {s t : State} (h : Accepts s) (hi : s.seq = .idle) (ht : exec .bringup s = .next t)
    (hr : t.seq = .ready) : ∃ r0, VerifyAnswers s (.ok r0 s.params.idExpected) := by
  obtain ⟨r, hverify⟩ : ∃ r, VerifyAnswers s r := ⟨_, rfl⟩
  cases r with
  | ok r0 r1 =>
    by_cases he : r1 = s.params.idExpected
    · exact ⟨r0, he ▸ hverify⟩
    · rw [bringupMismatchIsFatal s r0 r1 h hi he hverify] at ht
      cases ht
      cases hr
  | fail =>
    rw [bringupTransportFailureIsFatal s h hi hverify] at ht
    cases ht
    cases hr
  | never =>
    rw [hangLeavesWindowOpen.2 s h hi hverify] at ht
    cases ht
    cases hr

/-- A word that opens the gate of a free CORE at rest is `BRINGUP`, taken in Idle. -/
theorem opening_word_is_bringup {s t : State} {w : CommandWord} (h : Accepts s) (hr : s.seq ≠ .ready)
    (ht : exec (decodeCommand w) s = .next t) (hready : t.seq = .ready) :
    s.seq = .idle ∧ decodeCommand w = .bringup := by
  have hidle : s.seq = .idle := by
    by_contra hi
    exact hr (seq_eq_of_bringupRecord (bringupRecord_exec hi ht) ▸ hready)
  refine ⟨hidle, ?_⟩
  obtain hw | ⟨c, hw⟩ := decodeCommand_cases w <;> rw [hw] at ht ⊢
  · rw [reservedWordIsRefusedEverywhere s h] at ht
    cases ht
    exact absurd hready hr
  · by_cases hb : c = .bringup
    · rw [hb, Command.instr]
    · rw [exec_instr_not_ready hb h hr] at ht
      cases ht
      exact absurd hready hr

/-- Settles O36: a step that opens the gate runs a word, that word is `BRINGUP` in Idle, and of its
four ends one is in Ready. -/
theorem gateOpensOnlyByMatchingVerification : Obligations.GateOpensOnlyByMatchingVerification := by
  intro s t hs hc h hr hready
  obtain ⟨hl, ⟨rest, -, hreset⟩ | ⟨-, ⟨c, _, _, hc', -⟩ | ⟨c, hc', -⟩ | ⟨w, rest, hh, -, hw⟩ | ⟨-, -, rfl⟩⟩⟩ := step_next h
  · obtain ⟨-, rfl⟩ | ⟨-, rfl⟩ := takeReset_next hreset <;> cases hready
  · simp [hc] at hc'
  · simp [hc] at hc'
  · have hacc : Accepts { s with host := rest } := ⟨hl, hc, (hs.inv.atRest hc).1⟩
    obtain ⟨hi, hdec⟩ := opening_word_is_bringup hacc hr hw hready
    rw [hdec] at hw
    obtain ⟨r0, hverify⟩ := bringup_opens_gate hacc hi hw hready
    rw [(bringupMatchOpensGate _ r0 hacc hi hverify).2] at hw
    cases hw
    exact ⟨hi, rfl, ⟨w, rest, hh, hdec⟩, r0, rfl⟩
  · exact absurd hready hr

/-! The end of everything: Fatal (60_exceptions.md section 5). -/

/-- The statuses of a refusal (60_exceptions.md R150). -/
def Refusing (st : Status) : Prop := st = .gateClosed ∨ st = .notIdle ∨ st = .illegalCommand

section Fatal

variable {s t : State}

theorem Safe.closed_of_fatal (hs : Safe s) (hf : s.seq = .fatal) : s.txn = .none := by
  by_contra hx
  simpa [hf] using hs.inv.window hx

theorem begin_fatal (hf : s.seq = .fatal) (c : Command) : ∃ st, Refusing st ∧ begin c s = respond st none s := by
  by_cases hb : c = .bringup
  · subst hb
    exact ⟨_, .inr (.inl rfl), begin_over (.inr hf)⟩
  · exact ⟨_, .inl rfl, begin_not_ready hb (by simp [hf])⟩

theorem exec_decodeCommand_fatal (h : Accepts s) (hf : s.seq = .fatal) (w : CommandWord) :
    ∃ st c, Refusing st ∧ exec (decodeCommand w) s = .next (respond st none { s with cur := c }) := by
  obtain hw | ⟨c, hw⟩ := decodeCommand_cases w <;> rw [hw]
  · exact ⟨_, none, .inr (.inr rfl), by rw [exec, execReserved, accepting_eq h]⟩
  · by_cases hb : c = .bringup
    · subst hb
      exact ⟨_, _, .inr (.inl rfl), exec_bringup_not_idle h (by simp [hf])⟩
    · exact ⟨_, _, .inl rfl, exec_instr_not_ready hb h (by simp [hf])⟩

/-- A step in Fatal that is no reset does nothing, or refuses. -/
theorem step_fatal (hs : Safe s) (hf : s.seq = .fatal) (hreset : ¬ ResetNext s) (h : step s = .next t) :
    t = s ∨ ∃ st acts c, Refusing st ∧ t = respond st none { s with host := acts, cur := c } := by
  have hx := hs.closed_of_fatal hf
  obtain ⟨hl, ⟨rest, hh, -⟩ | ⟨-, ⟨c, i, u, hc, hp, -, -⟩ | ⟨c, hc, -, hr⟩ | ⟨w, rest, -, hc, hw⟩ | ⟨-, -, rfl⟩⟩⟩ :=
    step_next h
  · exact absurd ⟨rest, hh⟩ hreset
  · obtain ⟨-, hopen, -⟩ := pendingFrame_cases hc hp
    obtain ⟨st, -, hb⟩ := begin_fatal hf c
    have htxn : TxnPhase.none = .selected := hx.symm.trans (congrArg State.txn (hb.symm.trans hopen))
    cases htxn
  · obtain ⟨st, hst, hb⟩ := begin_fatal hf c
    rw [longestCommand, resume_begin hc hx hb, resume_free rfl] at hr
    cases hr
    exact .inr ⟨st, s.host, s.cur, hst, rfl⟩
  · obtain ⟨st, c, hst, hexec⟩ := exec_decodeCommand_fatal (s := { s with host := rest }) ⟨hl, hc, hx⟩ hf w
    rw [hexec] at hw
    cases hw
    exact .inr ⟨st, rest, c, hst, rfl⟩
  · exact .inl rfl

end Fatal

/-- Settles O38: no window is open in Fatal, every command is refused there, and a refusal is one
response. -/
theorem fatalIsTerminal : Obligations.FatalIsTerminal := by
  intro s t hs hf hreset h
  obtain rfl | ⟨st, acts, c, hst, rfl⟩ := step_fatal hs hf hreset h
  · exact ⟨hf, rfl, rfl, rfl, rfl, [], (List.append_nil _).symm, nofun⟩
  · refine ⟨hf, rfl, rfl, rfl, rfl, [.resp st none], rfl, fun e he => ?_⟩
    rw [List.mem_singleton.1 he]
    obtain rfl | rfl | rfl := hst <;> simp

end Sys2Proof.Machine
end

section
/-! PROOF. The environment (20_memory.md sections 1 and 2): what an instruction leaves in the registers
of the reference peripheral, what a received byte can depend on, and what a response reads of it. -/

namespace Sys2Proof.Machine

/-! The address and the flag of a first byte (30_encoding.md R80). -/

@[simp] theorem isWrite_readFirstByte (a : Addr) : isWrite (readFirstByte a) = false := by
  rw [isWrite_eq_msb, readFirstByte_eq_cons, BitVec.msb_cons]

@[simp] theorem addressOf_writeFirstByte (a : Addr) : addressOf (writeFirstByte a) = a := by
  rw [writeFirstByte_eq_cons]
  exact BitVec.setWidth_cons

@[simp] theorem addressOf_readFirstByte (a : Addr) : addressOf (readFirstByte a) = a := by
  rw [readFirstByte_eq_cons]
  exact BitVec.setWidth_cons

/-! The registers of the reference peripheral across an exchange (20_memory.md R62). -/

section Registers

variable {t0 t1 : Byte} {b : Addr}

theorem Stub.get_store (idAddr : Addr) (h : isWrite t0 = false ∨ b ≠ addressOf t0) (st : Stub) :
    (st.store idAddr t0 t1).reg.get b.toNat = st.reg.get b.toNat := by
  unfold Stub.store
  split
  next hw =>
    have hb : b ≠ addressOf t0 := h.resolve_left (by simp_all)
    exact Memory.get_set_other st.reg t1 fun he => hb (BitVec.eq_of_toNat_eq he)
  next => rfl

theorem Env.register_taken (idAddr : Addr) (h : isWrite t0 = false ∨ b ≠ addressOf t0) (e : Env) :
    (e.taken idAddr t0 t1).register b = e.register b := by
  unfold Env.taken Env.register
  split
  · rfl
  · simp [Option.map_map, Function.comp_def, Stub.get_store idAddr h]

end Registers

/-! The environment across each operation: an exchange that returned has reached it, and nothing else
of a transaction has. -/

section Environment

variable {c : Command} {s t : State}

theorem txnWith_env (r : Answer) (t0 t1 : Byte) (s : State) :
    (txnWith r t0 t1 s).env = s.env ∨ (txnWith r t0 t1 s).env = s.env.taken s.params.idAddr t0 t1 := by
  cases r with
  | ok r0 r1 => exact .inr rfl
  | fail => exact .inr rfl
  | never => exact .inl rfl

theorem judge_env (s : State) : (judge s).env = s.env := by
  obtain ⟨-, h⟩ | ⟨-, h⟩ := judge_cases s <;> rw [h] <;> rfl

theorem finishBringup_env (r : Answer) (s : State) : (finishBringup r s).env = s.env := by
  cases r with
  | ok r0 r1 => exact judge_env (takeResult s)
  | fail => rfl
  | never => rfl

theorem finishCommand_env (c : Command) (s : State) : (finishCommand c s).env = s.env := by
  cases c with
  | read a => rw [finishCommand]; cases lastAnswer s <;> rfl
  | write a v => rw [finishCommand]; cases lastAnswer s <;> rfl
  | bringup => exact finishBringup_env _ s

theorem register_txnWith (r : Answer) {t0 t1 : Byte} {b : Addr} (h : isWrite t0 = false ∨ b ≠ addressOf t0) (s : State) :
    (txnWith r t0 t1 s).env.register b = s.env.register b := by
  obtain he | he := txnWith_env r t0 t1 s <;> rw [he]
  exact Env.register_taken _ h s.env

theorem register_runTransaction {b : Addr} (h : isWrite (commandFrame s.params c).1 = false ∨ b ≠ addressOf (commandFrame s.params c).1) :
    (runTransaction c s).env.register b = s.env.register b := by
  rw [runTransaction, finishCommand_env]
  exact register_txnWith _ h s

/-- A register command writes nothing that `BRINGUP` records, and no register but the one its frame names. -/
theorem exec_register_frame (hb : c ≠ .bringup) (h : exec c.instr s = .next t) : bringupRecord t = bringupRecord s ∧
    ∀ b : Addr, isWrite (commandFrame s.params c).1 = false ∨ b ≠ addressOf (commandFrame s.params c).1 →
      t.env.register b = s.env.register b := by
  obtain ⟨-, rfl⟩ | ⟨-, st, rfl⟩ | ⟨-, -, rfl⟩ := exec_instr_next h
  · exact ⟨rfl, fun _ _ => rfl⟩
  · exact ⟨rfl, fun _ _ => rfl⟩
  · rw [beforeTransaction_register hb]
    exact ⟨(bringupRecord_finishCommand hb _).trans (bringupRecord_txnWith _ _ _ _),
      fun b hn => register_runTransaction (s := { s with cur := some c }) hn⟩

/-- A frame alone writes as little. -/
theorem txnWith_frame (r : Answer) (t0 t1 : Byte) (s : State) : bringupRecord (txnWith r t0 t1 s) = bringupRecord s ∧
    ∀ b : Addr, isWrite t0 = false ∨ b ≠ addressOf t0 → (txnWith r t0 t1 s).env.register b = s.env.register b :=
  ⟨bringupRecord_txnWith r t0 t1 s, fun _ hn => register_txnWith r hn s⟩

/-- What carries on and leaves the record of `BRINGUP` alone, field by field. -/
theorem Continues.fields (h : Continues s t) (hrec : bringupRecord t = bringupRecord s) :
    t.seq = s.seq ∧ t.rst = s.rst ∧ t.idSeen = s.idSeen ∧ t.cause = s.cause ∧ t.params = s.params ∧
      t.host = s.host ∧ t.history = s.history := by
  obtain ⟨hseq, hid, hcause, hrst⟩ := bringupRecord_eq_iff.1 hrec
  exact ⟨hseq, hrst, hid, hcause, h.params, h.host, h.history⟩

end Environment

/-- Settles O41: a read frame names no register to write. -/
theorem readFrame : Obligations.ReadFrame := by
  intro a i s t hi h
  obtain ⟨hrec, hreg⟩ : bringupRecord t = bringupRecord s ∧
      ∀ b : Addr, isWrite (readFirstByte a) = false ∨ b ≠ addressOf (readFirstByte a) →
        t.env.register b = s.env.register b := by
    obtain rfl | rfl := hi
    · exact exec_register_frame (c := .read a) (by simp) h
    · obtain ⟨-, rfl⟩ := execReadFrame_next h
      exact txnWith_frame _ _ _ s
  obtain ⟨hseq, hrst, hid, hcause, hp, hh, hhist⟩ := (continues_exec h).fields hrec
  exact ⟨hseq, hrst, hid, hcause, hp, hh, hhist, fun b => hreg b (.inl (isWrite_readFirstByte a))⟩

/-- Settles O42: a write frame names one register. -/
theorem writeFrame : Obligations.WriteFrame := by
  intro a v i s t hi h
  obtain ⟨hrec, hreg⟩ : bringupRecord t = bringupRecord s ∧
      ∀ b : Addr, isWrite (writeFirstByte a) = false ∨ b ≠ addressOf (writeFirstByte a) →
        t.env.register b = s.env.register b := by
    obtain rfl | rfl := hi
    · exact exec_register_frame (c := .write a v) (by simp) h
    · obtain ⟨-, rfl⟩ := execWriteFrame_next h
      exact txnWith_frame _ _ _ s
  obtain ⟨hseq, hrst, hid, hcause, hp, hh, hhist⟩ := (continues_exec h).fields hrec
  exact ⟨hseq, hrst, hid, hcause, hp, hh, hhist, fun b hb => hreg b (.inr hb)⟩

/-- Settles O43: the pulse reloads the registers and the read after it writes none; the reserved word
adds its response to the trace. -/
theorem bringupAndReservedFrame : Obligations.BringupAndReservedFrame := by
  refine ⟨fun s t h => ?_, fun s t h => ?_⟩
  · have hcont : Continues s t := continues_exec h
    refine ⟨hcont.params, hcont.host, hcont.history, fun b => ?_⟩
    obtain ⟨hc, rfl⟩ | ⟨-, hi, rfl⟩ | ⟨hc, hi, -, r, -, rfl⟩ := execBringup_next h
    · rw [if_neg fun h => hc h.1]
    · rw [if_neg fun h => hi h.2]
      rfl
    · rw [if_pos ⟨hc, hi⟩, finishBringup_env]
      exact register_txnWith r (.inl (isWrite_readFirstByte _)) _
  · obtain ⟨-, rfl⟩ | ⟨hc, rfl⟩ := execReserved_next h
    · rfl
    · exact respond_of_free hc s.cur _ _

/-! What a received byte can depend on (20_memory.md R61). -/

/-- An answer is fixed by the script, whatever is sent, or has the draw of its number as its first byte. -/
theorem Env.answer_first (e : Env) : (∃ r, ∀ t0 t1, e.answer t0 t1 = r) ∨
    ∀ t0 t1 r0 r1, e.answer t0 t1 = .ok r0 r1 → r0 = Config.freeFirst e.draws := by
  by_cases hs : ∃ r rest, e.script = some r :: rest
  · obtain ⟨r, rest, hs⟩ := hs
    exact .inl ⟨r, fun t0 t1 => by simp only [Env.answer, hs]⟩
  · refine .inr fun t0 t1 r0 r1 h => ?_
    unfold Env.answer at h
    split at h
    next r rest he => exact absurd ⟨r, rest, he⟩ hs
    next =>
      cases hst : e.stub with
      | some st =>
        simp only [hst, Stub.answer] at h
        cases h
        rfl
      | none =>
        simp only [hst] at h
        exact (Env.drawn_ok h).1

/-- Settles O53: a script answers whatever is sent, and stub and free draw take the first byte from the
number of the exchange. -/
theorem firstByteDoesNotDependOnFrame : Obligations.FirstByteDoesNotDependOnFrame := by
  intro e t0 t1 t0' t1' r0 r1 r0' r1' h h'
  obtain ⟨r, hr⟩ | hr := e.answer_first
  · rw [hr] at h h'
    cases h.symm.trans h'
    rfl
  · rw [hr _ _ _ _ h, hr _ _ _ _ h']

/-! What the end of a command reads (10_state.md R28). -/

section ReceiveLatches

variable (s : State) (x y : Option Byte)

theorem judge_rx0 : judge { s with rx0 := x } = { judge s with rx0 := x } := by
  unfold judge
  split <;> rfl

theorem finishCommand_rx0 (c : Command) : finishCommand c { s with rx0 := x } = { finishCommand c s with rx0 := x } := by
  have hlast : lastAnswer { s with rx0 := x } = lastAnswer s := rfl
  cases c with
  | read a => rw [finishCommand, finishCommand, hlast]; cases lastAnswer s <;> rfl
  | write a v => rw [finishCommand, finishCommand, hlast]; cases lastAnswer s <;> rfl
  | bringup =>
    rw [finishCommand, finishCommand, hlast]
    cases lastAnswer s with
    | ok r0 r1 => exact judge_rx0 (takeResult s) x
    | fail => rfl
    | never => rfl

theorem finishCommand_write_receive (a : Addr) (v : Byte) :
    finishCommand (.write a v) { s with rx0 := x, rx1 := y } = { finishCommand (.write a v) s with rx0 := x, rx1 := y } := by
  have hlast : lastAnswer { s with rx0 := x, rx1 := y } = lastAnswer s := rfl
  rw [finishCommand, finishCommand, hlast]
  cases lastAnswer s <;> rfl

theorem finishCommand_failed_receive (c : Command) (h : s.result = some .fail) :
    finishCommand c { s with rx0 := x, rx1 := y } = { finishCommand c s with rx0 := x, rx1 := y } := by
  have hlast : lastAnswer s = .fail := by rw [lastAnswer, h]; rfl
  have hlast' : lastAnswer { s with rx0 := x, rx1 := y } = .fail := hlast
  cases c <;> rw [finishCommand, finishCommand, hlast, hlast'] <;> rfl

end ReceiveLatches

/-- Settles O55: the verdict and `READ` read `RX1`, and that only where the exchange returned bytes. -/
theorem responseDoesNotReadTheFirstByte : Obligations.ResponseDoesNotReadTheFirstByte := by
  refine ⟨fun c s x => finishCommand_rx0 s x c, fun c s x y h => ?_⟩
  obtain ⟨a, v, rfl⟩ | hfail := h
  · exact finishCommand_write_receive s x y a v
  · exact finishCommand_failed_receive s x y c hfail

/-! The reference peripheral in full (20_memory.md R62). -/

/-- What a write frame leaves in its register. -/
theorem Stub.get_store_writeFirstByte (idAddr a : Addr) (v : Byte) {st : Stub} (hwf : st.reg.wf = true) :
    (st.store idAddr (writeFirstByte a) v).reg.get a.toNat =
      if st.readOnly idAddr a then st.reg.get a.toNat else v := by
  rw [Stub.store, isWrite_writeFirstByte, addressOf_writeFirstByte]
  by_cases hro : st.readOnly idAddr a = true
  · simp [hro]
  · simp [hro, Memory.get_set_same hwf]

/-- What a read frame gets from the register it names. -/
theorem Stub.answer_readFirstByte (n : Nat) (a : Addr) (t1 : Byte) (st : Stub) :
    st.answer n (readFirstByte a) t1 = .ok (Config.freeFirst n) (st.reg.get a.toNat) := by
  simp [Stub.answer]

/-- Nothing is scripted after an exchange before which nothing was. -/
theorem Env.taken_script {e : Env} (h : e.script = []) (idAddr : Addr) (t0 t1 : Byte) :
    (e.taken idAddr t0 t1).script = [] := by
  simp [Env.taken, h]

/-- An exchange that no script answers reaches the reference peripheral. -/
theorem Env.taken_stub {e : Env} {st : Stub} (h : e.script = []) (hst : e.stub = some st) (idAddr : Addr) (t0 t1 : Byte) :
    (e.taken idAddr t0 t1).stub = some (st.store idAddr t0 t1) := by
  simp [Env.taken, h, hst]

/-- Settles O44: the write reaches the register the read asks for, unless it is read-only. -/
theorem roundTripThroughReferencePeripheral : Obligations.RoundTripThroughReferencePeripheral := by
  intro a v s st h hr hst hscript hwf
  have hwrite : Answers s (writeFirstByte a) v (st.answer s.env.draws (writeFirstByte a) v) :=
    Env.answer_stub hscript hst _ _
  have ht := execWrite_ready h hr hwrite
  refine ⟨_, _, ht, execRead_ready (r := .ok (Config.freeFirst (s.env.draws + 1))
    ((st.store s.params.idAddr (writeFirstByte a) v).reg.get a.toNat)) ⟨h.legal, rfl, rfl⟩ hr ?_, ?_⟩
  · exact (Env.answer_stub (Env.taken_script hscript _ _ _) (Env.taken_stub hscript hst _ _ _) _ _).trans
      (Stub.answer_readFirstByte _ a _ _)
  · rw [responses_finishRead_ok, Stub.get_store_writeFirstByte _ _ _ hwf, Stub.answer, responses_finishWrite_ok]

end Sys2Proof.Machine
end
